-- ==== Sys2Proof/Word.lean ====
section
/-! DEFINITION. The words of the device and the fixed-size groups its blocks hold: bytes, tick values,
converter codes, and the groups of four (lanes, half-strips of a lane, probes) and of eight (temperature bands).
Spec: 00_scope.md, Tick arithmetic and Numbering. -/

namespace Sys2Proof

/-- One byte of the serial line (R179). -/
abbrev Byte := BitVec 8

/-- A value of the tick counter T: 32 bits, wrapping (R1). Differences of ticks are taken modulo 2^32. -/
abbrev Tick := BitVec 32

/-- Site-clock seconds S: 32 bits, wrapping (chapter 1.3). -/
abbrev Seconds := BitVec 32

/-- A raw sample: a signed 16-bit ADC code (R16). -/
abbrev Code := BitVec 16

/-- A lane, 0 to 3 for the manual's lanes 1 to 4. -/
abbrev LaneId := Fin 4

/-- A half-strip of a lane: 0 row 1 left, 1 row 1 right, 2 row 2 left, 3 row 2 right (Numbering). -/
abbrev Strip := Fin 4

/-- A probe, 0 to 3 for the manual's probes 1 to 4. -/
abbrev ProbeId := Fin 4

/-- A temperature band, 0 to 7 (R70). -/
abbrev Band := Fin 8

/-- Four things of one kind, by index: the lanes, the half-strips of a lane, the probes. -/
structure Four (α : Type) where
  a : α
  b : α
  c : α
  d : α
deriving DecidableEq, Repr

/-- The member with the given index. -/
def Four.get {α : Type} (f : Four α) : Fin 4 → α
  | 0 => f.a
  | 1 => f.b
  | 2 => f.c
  | 3 => f.d

/-- The group with the member at one index replaced. -/
def Four.set {α : Type} (f : Four α) (i : Fin 4) (x : α) : Four α :=
  match i with
  | 0 => { f with a := x }
  | 1 => { f with b := x }
  | 2 => { f with c := x }
  | 3 => { f with d := x }

/-- One function applied to every member. -/
def Four.map {α β : Type} (g : α → β) (f : Four α) : Four β :=
  { a := g f.a, b := g f.b, c := g f.c, d := g f.d }

/-- The members in index order. -/
def Four.toList {α : Type} (f : Four α) : List α := [f.a, f.b, f.c, f.d]

/-- The same thing four times. -/
def Four.fill {α : Type} (x : α) : Four α := { a := x, b := x, c := x, d := x }

/-- The indices in order. -/
def fours : List (Fin 4) := [0, 1, 2, 3]

/-- Eight things of one kind, by index: the temperature bands of a lane. -/
structure Eight (α : Type) where
  b0 : α
  b1 : α
  b2 : α
  b3 : α
  b4 : α
  b5 : α
  b6 : α
  b7 : α
deriving DecidableEq, Repr

/-- The member with the given index. -/
def Eight.get {α : Type} (e : Eight α) : Fin 8 → α
  | 0 => e.b0
  | 1 => e.b1
  | 2 => e.b2
  | 3 => e.b3
  | 4 => e.b4
  | 5 => e.b5
  | 6 => e.b6
  | 7 => e.b7

/-- The group with the member at one index replaced. -/
def Eight.set {α : Type} (e : Eight α) (i : Fin 8) (x : α) : Eight α :=
  match i with
  | 0 => { e with b0 := x }
  | 1 => { e with b1 := x }
  | 2 => { e with b2 := x }
  | 3 => { e with b3 := x }
  | 4 => { e with b4 := x }
  | 5 => { e with b5 := x }
  | 6 => { e with b6 := x }
  | 7 => { e with b7 := x }

/-- One function applied to every member. -/
def Eight.map {α β : Type} (g : α → β) (e : Eight α) : Eight β :=
  { b0 := g e.b0, b1 := g e.b1, b2 := g e.b2, b3 := g e.b3,
    b4 := g e.b4, b5 := g e.b5, b6 := g e.b6, b7 := g e.b7 }

/-- The members in index order. -/
def Eight.toList {α : Type} (e : Eight α) : List α :=
  [e.b0, e.b1, e.b2, e.b3, e.b4, e.b5, e.b6, e.b7]

/-- The same thing eight times. -/
def Eight.fill {α : Type} (x : α) : Eight α :=
  { b0 := x, b1 := x, b2 := x, b3 := x, b4 := x, b5 := x, b6 := x, b7 := x }

/-- A strip channel, by its lane and half-strip (Numbering). -/
structure ChannelId where
  lane : LaneId
  strip : Strip
deriving DecidableEq, Repr

end Sys2Proof
end

