-- ==== Sys2Proof/Config.lean ====
section
/-! DEFINITION. The constants fixed in the device, each with the rule that gives it, and the one value the spec leaves open. -/

namespace Sys2Proof.Config

/-- Nominal tick rate, N_ref at power-on (table of chapter 1; R7, R14). -/
def nominalRate : Nat := 10000

/-- Least measured interval of a candidate edge (R2). -/
def candidateMin : Nat := 9800

/-- Greatest measured interval of a candidate edge (R2). -/
def candidateMax : Nat := 10200

/-- Run and accept tolerance in ticks (R3, R4). -/
def edgeTolerance : Nat := 4

/-- Members of a candidate run that lock the timebase (R3). -/
def runLength : Nat := 3

/-- Consecutive rejects that send LOCKED to UNLOCKED (R5). -/
def rejectLimit : Nat := 3

/-- Ticks without an edge that send LOCKED to FREE (R6). -/
def silenceLimit : Nat := 15000

/-- Cap of the 16-bit counts (R13, R166, R169). -/
def countCap : Nat := 65535

/-- Saturation value of a pulse area (R21). -/
def areaCap : Nat := 2147483647

/-- Miss count at which an ACTIVE channel goes SUSPECT (R29). -/
def missSuspect : Nat := 8

/-- Miss count at which a channel goes FAILED (R29). -/
def missFailed : Nat := 32

/-- Entries a half-crossing list holds (R39). -/
def listCapacity : Nat := 4

/-- Crossings a row-1 pending queue holds (R45). -/
def pendingCapacity : Nat := 8

/-- Ticks after which a delivery mark lapses, 2^30 (R51). -/
def markLapse : Nat := 1073741824

/-- Lower limit of the held speed and of an orphan's v_est, mm/s (R50, R82). -/
def heldSpeedMin : Nat := 2778

/-- Upper limit of the held speed, mm/s (R82). -/
def heldSpeedMax : Nat := 55556

/-- Held speed after power-on, mm/s (R93). -/
def heldSpeedStart : Nat := 22222

/-- Consecutive disagreeing samples that change the presence state (R77). -/
def debounce : Nat := 50

/-- Axles a vehicle holds (R85). -/
def axleCapacity : Nat := 13

/-- Saturation value of a gate's edge count (R59). -/
def gateCountCap : Nat := 16777215

/-- Saturation value of f10 and of the raw wheel load (R59, R97). -/
def wordCap : Nat := 4294967295

/-- Reject run that fails a probe (R62, R64). -/
def probeRejectLimit : Nat := 4

/-- Consistent readings that recover a probe (R66). -/
def recoveryLength : Nat := 8

/-- T_w after power-on, 0.1 °C (R73). -/
def twStart : Int := 200

/-- 1.000 in factor units (Factors). -/
def factorOne : Nat := 16384

/-- Scale of the channel sensitivity S_ch, 2^24 (R98). -/
def sensitivityScale : Nat := 16777216

/-- Clamp of the base load and of the corrected loads (R98, R103). -/
def loadCap : Nat := 65535

/-- Clamp of a wheel load in kg (R104). -/
def wheelCap : Nat := 32767

/-- Least drift factor (R133). -/
def kdMin : Nat := 12288

/-- Greatest drift factor (R133). -/
def kdMax : Nat := 20480

/-- Records the Record Store holds (R159). -/
def storeCapacity : Nat := 256

/-- Highest serial, 2^48 − 1 (R160). -/
def serialMax : Nat := 281474976710655

/-- Entries the closed-tally queue holds (R169). -/
def tallyCapacity : Nat := 4

/-- Sample sets the capture buffer holds (R174). -/
def captureCapacity : Nat := 2048

/-- Requests the request queue holds (R181). -/
def requestCapacity : Nat := 4

/-- Longest frame body (R180). -/
def bodyMax : Nat := 1024

/-- Ticks between two bytes of a frame beyond which it is discarded (R180). -/
def byteGap : Nat := 50

/-- Free value (notes/assumptions/20.md): the factor found in a table of fewer than two points. R99 defines interpolation
for at least two points, and the commit checks keep shorter tables from every lane in service (R149 check 1). -/
opaque factorOfShortTable : List (Int × Nat) → Int → Nat

end Sys2Proof.Config
end

