-- ==== Sys2Proof/Syntax.lean ====
section
/-! DEFINITION. The commands of the device: one constructor per row of spec/opcode_table.json, in the table's order.
Events of the inputs carry what the input shows (a sample, a level, a byte). Events of the device's own blocks carry at most
which lane, channel or probe they concern: what they work on is state. A request carries the tag and the body bytes of its
frame (R181, R185), so that a body of the wrong length is a command too. -/

namespace Sys2Proof

inductive Instr where
  /-- POWER_ON (R14): supply is applied with the given levels on the straps RATE1 and RATE0 (R179). -/
  | powerOn (rate1 rate0 : Bool)
  /-- CHANNEL_SAMPLE (R15): a channel's raw sample of this tick. -/
  | channelSample (ch : ChannelId) (x : Code)
  /-- PULSE_OVERLONG (R24): a channel's pulse has reached w_max on the sample just taken. -/
  | pulseOverlong (ch : ChannelId)
  /-- CHANNEL_SETTINGS_WAITING (R33): a channel takes notice of the settings a commit left waiting for it. -/
  | channelSettingsWaiting (ch : ChannelId)
  /-- CHANNEL_SUPERVISION (R28): the oldest undelivered closed vehicle reaches the four units of its lane. -/
  | channelSupervision
  /-- REF_EDGE (R1, R2): the level REFPULSE is sampled at on this tick; high after low is a reference edge. -/
  | refEdge (level : Bool)
  /-- TIMEBASE_SILENCE (R6). -/
  | timebaseSilence
  /-- FREE_RUNNING_BOUNDARY (R8). -/
  | freeRunningBoundary
  /-- PULSE_REPORT (R38): the oldest undelivered pulse report reaches its lane's matcher. -/
  | pulseReport
  /-- HOLD_EXPIRY (R40): the oldest held pulse of one channel. -/
  | holdExpiry (ch : ChannelId)
  /-- PENDING_EXPIRY (R47). -/
  | pendingExpiry (lane : LaneId)
  /-- DELIVERY_MARK_LAPSE (R51). -/
  | deliveryMarkLapse (lane : LaneId)
  /-- PRESENCE_SAMPLE (R77): the level a lane's loop input is sampled at on this tick. -/
  | presenceSample (lane : LaneId) (level : Bool)
  /-- GAP_WITH_LOOP (R87). -/
  | gapWithLoop (lane : LaneId)
  /-- GAP_WITHOUT_LOOP (R88). -/
  | gapWithoutLoop (lane : LaneId)
  /-- TIMEOUT (R89). -/
  | timeout (lane : LaneId)
  /-- RECORD_STORE_DELIVERY (R161): the oldest undelivered record reaches the Record Store. -/
  | recordStoreDelivery
  /-- TALLY_RECORD (R167): the oldest undelivered record reaches the Tally Unit. -/
  | tallyRecord
  /-- TALLY_DROP (R168): the oldest unreported drop reaches the Tally Unit. -/
  | tallyDrop
  /-- DRIFT_FEED (R134): the oldest undelivered record reaches the Drift Tracker. -/
  | driftFeed
  /-- CAPTURE_CLOSE_TEST (R176): the oldest undelivered record reaches the Capture Unit. -/
  | captureCloseTest
  /-- CAPTURE_WRITE (R174). -/
  | captureWrite
  /-- GATE_END (R59). -/
  | gateEnd
  /-- PROBE_SETTINGS_TAKE (R57): the Temperature Unit takes the oldest offer of a commit. -/
  | probeSettingsTake
  /-- DRIFT_POLICY_TAKE (R141): the Drift Tracker takes the oldest offer of a commit. -/
  | driftPolicyTake
  /-- SITE_SETTINGS_TAKE (R170): the Tally Unit and the Record Store take the oldest offer of a commit. -/
  | siteSettingsTake
  /-- INBOUND_BYTE (R180): one byte of the line, with whether its stop bit was at fault. -/
  | inboundByte (byte : Byte) (stopFault : Bool)
  /-- FRAME_GAP_EXPIRY (R180). -/
  | frameGapExpiry
  /-- TRANSMIT_END (R182). -/
  | transmitEnd
  /-- UNKNOWN_REQUEST (R181): a request is served whose kind names none. -/
  | unknownRequest (kind tag : Byte) (body : List Byte)
  /-- STATUS (R183), kind 0x01. -/
  | status (tag : Byte) (body : List Byte)
  /-- LIVE_READ (R183), kind 0x02. -/
  | liveRead (tag : Byte) (body : List Byte)
  /-- TIME_SET (R10), kind 0x03. -/
  | timeSet (tag : Byte) (body : List Byte)
  /-- RESTART (R184), kind 0x04. -/
  | restart (tag : Byte) (body : List Byte)
  /-- CHANNEL_RESTORE (R30), kind 0x05. -/
  | channelRestore (tag : Byte) (body : List Byte)
  /-- PROBE_RESTORE (R67), kind 0x06. -/
  | probeRestore (tag : Byte) (body : List Byte)
  /-- STAGE_OPEN (R145), kind 0x10. -/
  | stageOpen (tag : Byte) (body : List Byte)
  /-- STAGE_PUT (R146), kind 0x11. -/
  | stagePut (tag : Byte) (body : List Byte)
  /-- STAGE_DISCARD (R148), kind 0x12. -/
  | stageDiscard (tag : Byte) (body : List Byte)
  /-- STAGE_COMMIT (R149), kind 0x13. -/
  | stageCommit (tag : Byte) (body : List Byte)
  /-- TABLE_READ (R155), kind 0x14. -/
  | tableRead (tag : Byte) (body : List Byte)
  /-- DRIFT_GET (R139), kind 0x18. -/
  | driftGet (tag : Byte) (body : List Byte)
  /-- DRIFT_SET (R140), kind 0x19. -/
  | driftSet (tag : Byte) (body : List Byte)
  /-- DRIFT_FREEZE (R138), kind 0x1A. -/
  | driftFreeze (tag : Byte) (body : List Byte)
  /-- RECORD_FETCH (R163), kind 0x20. -/
  | recordFetch (tag : Byte) (body : List Byte)
  /-- RECORD_RELEASE (R164), kind 0x21. -/
  | recordRelease (tag : Byte) (body : List Byte)
  /-- TALLY_FETCH (R171), kind 0x22. -/
  | tallyFetch (tag : Byte) (body : List Byte)
  /-- TALLY_RELEASE (R171), kind 0x23. -/
  | tallyRelease (tag : Byte) (body : List Byte)
  /-- CAPTURE_ARM (R173), kind 0x28. -/
  | captureArm (tag : Byte) (body : List Byte)
  /-- CAPTURE_FETCH (R177), kind 0x29. -/
  | captureFetch (tag : Byte) (body : List Byte)
  /-- CAPTURE_RELEASE (R177), kind 0x2A. -/
  | captureRelease (tag : Byte) (body : List Byte)
  /-- PROBE_EDGE (R58): a rising edge of a probe's oscillator. -/
  | probeEdge (probe : ProbeId)
deriving DecidableEq, Repr

end Sys2Proof
end

