-- ==== Sys2Proof/Decode.lean ====
section
/-! DEFINITION. The commands that words spell: none, since no row of the opcode table gives bits; and the commands that the
requests of the serial line spell by their kind, tag and body (R181, R185), with the inverse. -/

namespace Sys2Proof

/-- The command that a word of the opcode table's bits spells. No row of the table has bits, so no word spells one. -/
def decodeTableWord (_nbits _w : Nat) : Option Instr := none

/-- The command of a good request (R181): the request its kind names (table of R185), or UNKNOWN_REQUEST. -/
def decodeRequest (kind tag : Byte) (body : List Byte) : Instr :=
  match kind.toNat with
  | 0x01 => .status tag body
  | 0x02 => .liveRead tag body
  | 0x03 => .timeSet tag body
  | 0x04 => .restart tag body
  | 0x05 => .channelRestore tag body
  | 0x06 => .probeRestore tag body
  | 0x10 => .stageOpen tag body
  | 0x11 => .stagePut tag body
  | 0x12 => .stageDiscard tag body
  | 0x13 => .stageCommit tag body
  | 0x14 => .tableRead tag body
  | 0x18 => .driftGet tag body
  | 0x19 => .driftSet tag body
  | 0x1A => .driftFreeze tag body
  | 0x20 => .recordFetch tag body
  | 0x21 => .recordRelease tag body
  | 0x22 => .tallyFetch tag body
  | 0x23 => .tallyRelease tag body
  | 0x28 => .captureArm tag body
  | 0x29 => .captureFetch tag body
  | 0x2A => .captureRelease tag body
  | _ => .unknownRequest kind tag body

/-- The kind, tag and body of the request a command serves; none for the commands that are no request. -/
def encodeRequest : Instr → Option (Byte × Byte × List Byte)
  | .status tag body => some (0x01, tag, body)
  | .liveRead tag body => some (0x02, tag, body)
  | .timeSet tag body => some (0x03, tag, body)
  | .restart tag body => some (0x04, tag, body)
  | .channelRestore tag body => some (0x05, tag, body)
  | .probeRestore tag body => some (0x06, tag, body)
  | .stageOpen tag body => some (0x10, tag, body)
  | .stagePut tag body => some (0x11, tag, body)
  | .stageDiscard tag body => some (0x12, tag, body)
  | .stageCommit tag body => some (0x13, tag, body)
  | .tableRead tag body => some (0x14, tag, body)
  | .driftGet tag body => some (0x18, tag, body)
  | .driftSet tag body => some (0x19, tag, body)
  | .driftFreeze tag body => some (0x1A, tag, body)
  | .recordFetch tag body => some (0x20, tag, body)
  | .recordRelease tag body => some (0x21, tag, body)
  | .tallyFetch tag body => some (0x22, tag, body)
  | .tallyRelease tag body => some (0x23, tag, body)
  | .captureArm tag body => some (0x28, tag, body)
  | .captureFetch tag body => some (0x29, tag, body)
  | .captureRelease tag body => some (0x2A, tag, body)
  | .unknownRequest kind tag body => some (kind, tag, body)
  | .powerOn _ _ => none
  | .channelSample _ _ => none
  | .pulseOverlong _ => none
  | .channelSettingsWaiting _ => none
  | .channelSupervision => none
  | .refEdge _ => none
  | .timebaseSilence => none
  | .freeRunningBoundary => none
  | .pulseReport => none
  | .holdExpiry _ => none
  | .pendingExpiry _ => none
  | .deliveryMarkLapse _ => none
  | .presenceSample _ _ => none
  | .gapWithLoop _ => none
  | .gapWithoutLoop _ => none
  | .timeout _ => none
  | .recordStoreDelivery => none
  | .tallyRecord => none
  | .tallyDrop => none
  | .driftFeed => none
  | .captureCloseTest => none
  | .captureWrite => none
  | .gateEnd => none
  | .probeSettingsTake => none
  | .driftPolicyTake => none
  | .siteSettingsTake => none
  | .inboundByte _ _ => none
  | .frameGapExpiry => none
  | .transmitEnd => none
  | .probeEdge _ => none

end Sys2Proof
end

