-- ==== Sys2Proof/Machine/Items.lean ====
section
/-! DEFINITION. The 63 items of a site table set as plain data (R145 to R150), with speeds in km/h and class spacings in cm
as they are staged, and the generations made from committed sets. -/

namespace Sys2Proof.Machine

/-- The SITE item (9.1, R185). -/
structure SiteItem where
  interval : Nat      -- tally interval, min
  threshold : Nat     -- records-ready threshold
  axleLimit : Nat     -- default axle limit, kg
  gvwLimit : Nat      -- default GVW limit, kg
  gate : Nat          -- G, ticks
  q : Nat             -- temperature smoothing
  jump : Nat          -- J, 0.1 °C
deriving DecidableEq, Repr

/-- A LANE item: matching, assembly and checking settings and the permit mask (3.1, 5.1, 7.3, 7.5). -/
structure LaneItem where
  enabled : Bool
  loop : Bool
  rowSpacing : Nat    -- D, mm
  vLo : Nat           -- km/h
  vHi : Nat           -- km/h
  pairWindow : Nat    -- P, ticks
  hold : Nat          -- H, ticks
  sMax : Nat          -- mm
  gapLoop : Nat       -- G_c, ticks
  gapNoLoop : Nat     -- G_n, ticks
  openLimit : Nat     -- s
  fallback : Nat      -- km/h
  validLow : Nat      -- km/h
  validHigh : Nat     -- km/h
  accelTol : Nat      -- ‰
  rowTol : Nat        -- %
  permit : BitVec 32  -- bit c for class c
deriving DecidableEq, Repr

/-- A CHANNEL item: enable, detector settings and sensitivity (2.5, 6.1). -/
structure ChannelItem where
  enabled : Bool
  k : Nat
  m : Nat
  thOn : Nat
  thOff : Nat
  cOn : Nat
  cOff : Nat
  wMin : Nat
  wMax : Nat
  sensitivity : Nat   -- S_ch
deriving DecidableEq, Repr

/-- A bound pair of a class rule. -/
structure Bounds where
  min : Nat
  max : Nat
deriving DecidableEq, Repr

/-- A non-empty class rule (7.1). -/
structure ClassRule where
  code : Nat
  axles : Bounds
  spacings : List Bounds          -- cm
  gvw : Option Bounds             -- kg
  minFirstAxle : Option Nat       -- kg
  axleLimit : Option Nat          -- kg, enforcement only
  gvwLimit : Option Nat           -- kg, enforcement only
deriving DecidableEq, Repr

/-- The DRIFT item, the drift policy (8.1). -/
structure DriftItem where
  refClass : Nat
  target : Nat      -- L_t, kg
  window : Nat      -- a, %
  batch : Nat       -- N_b
  gain : Nat        -- g, 1/256
  maxStep : Nat     -- m, 0.1 %
deriving DecidableEq, Repr

/-- What a probe serves (R56). -/
inductive Role where
  | primary | alternate | surface | deep | none
deriving DecidableEq, Repr

/-- A PROBE item: role and conversion table of (f10, temperature) points (4.1). -/
structure ProbeItem where
  role : Role
  points : List (Nat × Int)
deriving DecidableEq, Repr

/-- One item with its identity (R146). Lanes, channels and probes are numbered from 0 here. -/
inductive Item where
  | site (v : SiteItem)
  | lane (n : LaneId) (v : LaneItem)
  | channel (ch : ChannelId) (v : ChannelItem)
  | speedTab (n : LaneId) (points : List (Nat × Nat))
  | tempTab (factors : List Nat)
  | classRule (i : Fin 32) (v : Option ClassRule)
  | drift (v : DriftItem)
  | probe (p : ProbeId) (v : ProbeItem)
deriving DecidableEq, Repr

/-- The identity of an item: its kind and index. -/
inductive ItemId where
  | site
  | lane (n : LaneId)
  | channel (ch : ChannelId)
  | speedTab (n : LaneId)
  | tempTab
  | classRule (i : Fin 32)
  | drift
  | probe (p : ProbeId)
deriving DecidableEq, Repr

/-- A site table set: all 63 items (9.1). The class rules are a list of thirty-two, an empty rule being none. -/
structure TableSet where
  site : SiteItem
  lanes : Four LaneItem
  channels : Four (Four ChannelItem)
  speedTabs : Four (List (Nat × Nat))   -- (km/h, factor)
  tempTab : List Nat
  classes : List (Option ClassRule)
  drift : DriftItem
  probes : Four ProbeItem
deriving DecidableEq, Repr

/-- A generation: a committed set with its number, and each speed table in mm/s kept beside it (R150). -/
structure Generation where
  number : Nat
  set : TableSet
  speedMm : Four (List (Nat × Nat))     -- (mm/s, factor)
deriving DecidableEq, Repr

/-- Default SITE item (9.1, The default set). -/
def SiteItem.standard : SiteItem :=
  { interval := 15, threshold := 8, axleLimit := 11500, gvwLimit := 44000, gate := 10000, q := 3, jump := 30 }

/-- Default LANE item (9.1). -/
def LaneItem.standard : LaneItem :=
  { enabled := true, loop := false, rowSpacing := 3000, vLo := 5, vHi := 250, pairWindow := 60, hold := 200,
    sMax := 12000, gapLoop := 3000, gapNoLoop := 10000, openLimit := 30, fallback := 80, validLow := 15,
    validHigh := 160, accelTol := 80, rowTol := 20, permit := BitVec.allOnes 32 }

/-- Default CHANNEL item (9.1). -/
def ChannelItem.standard : ChannelItem :=
  { enabled := true, k := 2, m := 10, thOn := 400, thOff := 200, cOn := 3, cOff := 4, wMin := 15, wMax := 20000,
    sensitivity := 12000 }

/-- Default DRIFT item (8.1, 9.1). -/
def DriftItem.standard : DriftItem :=
  { refClass := 0, target := 6000, window := 30, batch := 32, gain := 64, maxStep := 20 }

/-- Default PROBE item (9.1). -/
def ProbeItem.standard : ProbeItem := { role := .none, points := [] }

/-- The default set that a staging set opened with no active generation holds (R145, 9.1). -/
def TableSet.standard : TableSet :=
  { site := SiteItem.standard
    lanes := Four.fill LaneItem.standard
    channels := Four.fill (Four.fill ChannelItem.standard)
    speedTabs := Four.fill [(50, 16384), (150, 16384)]
    tempTab := List.replicate 9 16384
    classes := List.replicate 32 none
    drift := DriftItem.standard
    probes := Four.fill ProbeItem.standard }

end Sys2Proof.Machine
end

