-- ==== Sys2Proof/Machine/Vehicles.lean ====
section
/-! DEFINITION. What passes from the strips to the record as plain data: pulse reports (R23), crossings (R43), axles (R48),
the open-vehicle context (R79), and the vehicle record with its axle entries (R162). -/

namespace Sys2Proof.Machine

/-- Upstream row 1 and downstream row 2 (Numbering). -/
inductive Row where
  | one | two
deriving DecidableEq, Repr

/-- Left (side 1, verge side) and right (side 2). -/
inductive Side where
  | left | right
deriving DecidableEq, Repr

/-- A pulse report (R23). -/
structure PulseReport where
  channel : ChannelId
  onset : Tick
  ended : Tick
  width : Nat
  peak : Nat
  area : Nat
  clipped : Bool
deriving DecidableEq, Repr

/-- A crossing (R43). -/
structure Crossing where
  lane : LaneId
  row : Row
  onset : Tick
  left : Option PulseReport
  right : Option PulseReport
  straddle : Bool
  missingSide : Bool
deriving DecidableEq, Repr

/-- Which rows an axle's crossings come from (R48). -/
inductive RowMark where
  | both | row1 | row2
deriving DecidableEq, Repr

/-- The single-wheel mark of an axle (R48). -/
inductive SingleMark where
  | clear | wheelMissed | sideOut
deriving DecidableEq, Repr

/-- An axle as the matcher forms it (R48). Its row, straddle and single-wheel marks follow from its crossings. -/
structure Axle where
  lane : LaneId
  row1 : Option Crossing
  row2 : Option Crossing
  ownSpeed : Option Nat   -- mm/s
  time : Tick
deriving DecidableEq, Repr

/-- An axle in a context: the axle, its effective speed (R81) and its spacing to the next axle (R86). -/
structure ContextAxle where
  axle : Axle
  eff : Nat               -- mm/s
  spacing : Option Nat    -- mm
deriving DecidableEq, Repr

/-- The open-vehicle context (R79). -/
structure Context where
  generation : Generation
  tw : Int
  held : Bool
  band : Band
  kd : Nat
  openTick : Tick
  lastTick : Tick
  fell : Bool
  split : Bool
  axles : List ContextAxle
deriving DecidableEq, Repr

/-- The quality codes, GOOD first and then in check order (R118). -/
inductive Quality where
  | good | fragment | incomplete | straddle | speedRange | acceleration | singleRow | rowDisagree | offscale | split
deriving DecidableEq, Repr

/-- The condition set (R125). -/
structure Conditions where
  tempHeld : Bool
  timebaseFree : Bool
  tailgate : Bool
  timeout : Bool
  captured : Bool
deriving DecidableEq, Repr

/-- The enforcement flags (R127 to R129). -/
structure Enforcement where
  axleOver : Bool
  gvwOver : Bool
  laneBanned : Bool
deriving DecidableEq, Repr

/-- An entry of a record's axle list (R162). -/
structure AxleEntry where
  load : Nat
  left : Nat
  right : Nat
  spacing : Option Nat    -- mm
  speed : Option Nat      -- 0.1 km/h
  row : RowMark
  straddle : Bool
  single : SingleMark
deriving DecidableEq, Repr

/-- A vehicle record (R162). Its axle count is the number of entries. -/
structure VehicleRecord where
  serial : Option Nat
  lane : LaneId
  seconds : Seconds
  subtick : Nat
  speed : Option Nat      -- 0.1 km/h
  cls : Nat
  quality : Quality
  split : Bool
  conditions : Conditions
  flags : Enforcement
  tw : Int
  generation : Nat
  kd : Nat
  gvw : Nat
  wheelbase : Nat
  axles : List AxleEntry
deriving DecidableEq, Repr

/-- What the four channel units of a lane receive of a closed vehicle: its lane, its quality and, for each axle, the channels
that supplied a pulse to its crossings (R28). -/
structure Supervision where
  lane : LaneId
  quality : Quality
  contributed : List (List ChannelId)
deriving DecidableEq, Repr

end Sys2Proof.Machine
end

