-- ==== Sys2Proof/Machine/State.lean ====
section
/-! DEFINITION. The state of the device: one structure per block of 00_scope.md, what passes between the blocks and has not
been taken yet, and the queue of waiting commands; the reasons a step could stop; and the state right after reset, which is
the state after power-on (R14, R36, R54, R73, R93, R144, R158, R172, R178, R184). -/

namespace Sys2Proof.Machine

/-! ## Sample Timebase (chapter 1) -/

inductive LockState where
  | unlocked | locked | free
deriving DecidableEq, Repr

structure Timebase where
  t : Tick                     -- T
  refHigh : Bool               -- REFPULSE as last sampled
  lock : LockState
  nRef : Nat                   -- N_ref
  tLast : Option Tick          -- Tlast
  lastInterval : Option Nat    -- latest N_meas
  run : List Nat               -- candidate run, in edge order
  rejectRun : Nat
  seconds : Seconds            -- S
  mark : Tick
  rejectedEdges : Nat
  relocks : Nat
deriving DecidableEq, Repr

/-! ## Strip Channel Units (chapter 2) -/

inductive Service where
  | active | suspect | failed | disabled
deriving DecidableEq, Repr

/-- The accumulators of an attempt in hand (R19). -/
structure Attempt where
  onset : Tick
  area : Nat
  peak : Nat
  clipped : Bool
deriving DecidableEq, Repr

/-- The detector state with what each state holds: the attempt and the above-count in ONSET, the attempt and the below-count
in PULSE, the below-count in HELD. The mark overdue of PULSE is the model's own: the sample just taken did not end the pulse
and T − onset has reached w_max, so PULSE_OVERLONG is to be taken on this sample (R24). -/
inductive Detector where
  | quiet
  | onset (a : Attempt) (above : Nat)
  | pulse (a : Attempt) (below : Nat) (overdue : Bool)
  | held (below : Nat)
deriving DecidableEq, Repr

/-- Working detector settings (2.5); enabled is the working enable of R32. -/
structure DetectorSettings where
  enabled : Bool
  k : Nat
  m : Nat
  thOn : Nat
  thOff : Nat
  cOn : Nat
  cOff : Nat
  wMin : Nat
  wMax : Nat
deriving DecidableEq, Repr

/-- Settings waiting for a unit, with the generation they come from and the moment R33 gives: at once, with the detector QUIET
when the commit was taken, or on the sample that leaves it QUIET (notes/assumptions/30.md). -/
structure WaitingSettings where
  generation : Nat
  settings : DetectorSettings
  atOnce : Bool
deriving DecidableEq, Repr

structure ChannelUnit where
  y : Int
  baseline : Int                          -- b, 1/256 code
  detector : Detector
  service : Service
  overlong : Nat
  miss : Nat
  settings : Option DetectorSettings
  generation : Option Nat                 -- settings generation
  waiting : Option WaitingSettings
  seed : Bool                             -- due to seed (R17)
  lastExcess : Int                        -- e of the last sample taken (R35)
deriving DecidableEq, Repr

/-! ## Crossing Matcher (chapter 3) and Vehicle Assembler (chapter 5) -/

/-- The match windows Δt_min and Δt_max (R44). -/
structure Windows where
  dtMin : Nat
  dtMax : Nat
deriving DecidableEq, Repr

structure Matcher where
  list1 : List PulseReport        -- row-1 half-crossing list
  list2 : List PulseReport        -- row-2 half-crossing list
  queue : List Crossing           -- row-1 pending queue
  windows : Option Windows
  mark : Option Tick              -- delivery mark
deriving DecidableEq, Repr

inductive LaneService where
  | out | inService
deriving DecidableEq, Repr

structure Assembler where
  adopted : Option Generation
  working : Option LaneItem       -- working lane settings of matcher and assembler (R37, R75)
  service : LaneService
  presence : Bool                 -- ON is true
  presenceRun : Nat
  heldSpeed : Nat                 -- mm/s
  context : Option Context        -- OPEN when present, IDLE when absent
deriving DecidableEq, Repr

/-- One lane: its four channel units, its matcher and its assembler. -/
structure Lane where
  units : Four ChannelUnit
  matcher : Matcher
  asm : Assembler
deriving DecidableEq, Repr

/-! ## Pavement Temperature Unit (chapter 4) -/

inductive ProbeState where
  | absent | seeding | good | suspect | failed
deriving DecidableEq, Repr

/-- A probe's reading (R59). -/
inductive Reading where
  | temp (t : Int)
  | outOfRange
  | noSignal
deriving DecidableEq, Repr

/-- A recovery run: the count and the latest in-range reading (R66). -/
structure Recovery where
  count : Nat
  latest : Int
deriving DecidableEq, Repr

structure Probe where
  role : Role
  points : List (Nat × Int)       -- working conversion table
  state : ProbeState
  lastF10 : Option Nat
  lastReading : Option Reading
  smoothed : Option Int
  rejectRun : Nat
  recovery : Option Recovery      -- none is the empty run
  edges : Nat                     -- edge counter (R58)
deriving DecidableEq, Repr

/-- The gate in progress: the probe, its start tick, the latched G, and the edge counter at the start (R58). -/
structure Gate where
  probe : ProbeId
  start : Tick
  length : Nat
  base : Nat
deriving DecidableEq, Repr

inductive Selection where
  | primary | alternate | none
deriving DecidableEq, Repr

structure TempUnit where
  probes : Four Probe
  gate : Option Gate
  gateLength : Nat                -- G in force
  q : Nat
  jump : Nat                      -- J
  selection : Selection
  tw : Int
  held : Bool
deriving DecidableEq, Repr

/-! ## Drift Tracker (chapter 8) -/

structure DriftBand where
  kd : Nat
  sum : Nat
  n : Nat
  rejected : Nat
deriving DecidableEq, Repr

structure DriftLane where
  frozen : Bool
  bands : Eight DriftBand
deriving DecidableEq, Repr

structure DriftTracker where
  policy : DriftItem
  lanes : Four DriftLane
deriving DecidableEq, Repr

/-! ## Table Store (chapter 9) -/

/-- An OPEN staging set and its source, none standing for defaults (R145). -/
structure Staging where
  set : TableSet
  source : Option Nat
deriving DecidableEq, Repr

structure TableStore where
  staging : Option Staging        -- OPEN when present, CLOSED when absent
  active : Option Generation
  retiring : Option Generation
  counter : Nat
deriving DecidableEq, Repr

/-! ## Record Store and Tally Unit (chapter 10) -/

structure RecordStore where
  held : List VehicleRecord       -- oldest first
  serial : Option Nat             -- serial counter, none when exhausted
  dropped : Nat
  armed : Bool                    -- ready arming
  threshold : Nat
deriving DecidableEq, Repr

/-- A lane's tally (R166). -/
structure Tally where
  classes : List Nat              -- 32
  qualities : List Nat            -- 10
  speeds : List Nat               -- 16
  gvws : List Nat                 -- 16
  axleLoads : List Nat            -- 16
  axleOver : Nat
  gvwOver : Nat
  laneBanned : Nat
  spikes : Nat
  singleRow : Nat
  dropped : Nat
  twMin : Int
  twMax : Int
  twLast : Int
deriving DecidableEq, Repr

/-- An entry of the closed-tally queue (R169). -/
structure TallyEntry where
  start : Seconds
  finish : Seconds
  extension : Nat
  probes : Four (Option Int)
  lanes : Four Tally
deriving DecidableEq, Repr

structure TallyUnit where
  active : Four Tally
  openedAt : Seconds
  extension : Nat
  interval : Nat                  -- min
  queue : List TallyEntry         -- oldest first
deriving DecidableEq, Repr

/-! ## Capture Unit (chapter 11) -/

inductive CaptureState where
  | idle | armed | recording | held
deriving DecidableEq, Repr

inductive Trigger where
  | next
  | flagged
  | cls (c : Nat)
  | enforce
deriving DecidableEq, Repr

/-- A sample set: the four conditioned samples of one tick (R174). -/
structure SampleSet where
  tick : Tick
  ys : Four Int
deriving DecidableEq, Repr

/-- The description of a held capture (R176). The start tick is absent only for a capture of no sample set. -/
structure Description where
  serial : Option Nat
  lane : LaneId
  startTick : Option Tick
  d : Nat
  count : Nat
  truncated : Bool
deriving DecidableEq, Repr

structure CaptureUnit where
  state : CaptureState
  lane : Option LaneId
  d : Option Nat
  trigger : Option Trigger
  buffer : List SampleSet         -- oldest first
  startTick : Option Tick         -- tick of the held set that is the start
  truncated : Bool
  description : Option Description
  nextWrite : Tick                -- the tick of the next write (R174), meaningful in ARMED and RECORDING
deriving DecidableEq, Repr

/-! ## Message Link (chapter 12) -/

inductive LineRate where
  | r115200 | r230400 | r460800 | r921600
deriving DecidableEq, Repr

/-- The four header bytes after the sync byte, taken together (R180). -/
structure FrameHeader where
  length : Nat
  kind : Byte
  tag : Byte
deriving DecidableEq, Repr

/-- The receiver state with the frame in hand (R180). Bytes stand in the order they arrived. -/
inductive Receiver where
  | hunt
  | header (got : List Byte)
  | body (h : FrameHeader) (got : List Byte)
  | check (h : FrameHeader) (body : List Byte) (first : Option Byte)
deriving DecidableEq, Repr

/-- A good request in the request queue (R181). -/
structure Request where
  kind : Byte
  tag : Byte
  body : List Byte
  served : Bool
deriving DecidableEq, Repr

/-- The sets of a SERVICE_CHANGE notice (R182). -/
structure ChangeSet where
  channels : BitVec 16
  probes : BitVec 8
  lanes : BitVec 8
  timebase : Bool
deriving DecidableEq, Repr

/-- A notice with its contents (R182). -/
inductive Notice where
  | started (power restart : Bool)
  | recordsReady (held : Nat) (oldest : Option Nat)
  | tallyClosed (count : Nat)
  | serviceChange (set : ChangeSet)
  | driftUpdated (lanes : Four (BitVec 8))
  | captureHeld (serial : Option Nat)
deriving DecidableEq, Repr

/-- Where a reply comes from: a served request that holds a place of the request queue until the reply's transmission ends,
a refused request, whose reply holds the overrun slot until its transmission begins, or a request command that reached its
block without a place in the queue (notes/assumptions/8.md). -/
inductive ReplySource where
  | queued | overrun | direct
deriving DecidableEq, Repr

/-- A reply: its frame's kind, tag and body (R181). -/
structure Reply where
  kind : Byte
  tag : Byte
  body : List Byte
  source : ReplySource
deriving DecidableEq, Repr

inductive OutFrame where
  | reply (r : Reply)
  | notice (n : Notice)
deriving DecidableEq, Repr

structure Link where
  rate : LineRate
  rx : Receiver
  lastByte : Tick                 -- tick of the last inbound byte of the frame in hand
  requests : List Request         -- in arrival order
  overrunSlot : Option Reply
  outgoing : List OutFrame        -- not yet begun, in creation order
  sending : Option OutFrame       -- the frame in transmission
  badFrames : Nat
  overruns : Nat
deriving DecidableEq, Repr

/-! ## What has been handed over between blocks and not yet taken -/

/-- An offer of a commit to the Drift Tracker: the policy and the drift-reset flag (R152). -/
structure DriftOffer where
  policy : DriftItem
  reset : Bool
deriving DecidableEq, Repr

/-- A closed record on its way to the Capture Unit, with what came of the same lane after its close and reaches the unit after it:
that the lane went OUT (R178, notes/assumptions/35.md), and the target tick of an open (R175, R176, notes/assumptions/29.md). -/
structure CaptureDelivery where
  record : VehicleRecord
  opened : Option Tick
  laneOut : Bool
deriving DecidableEq, Repr

/-- Deliveries and offers on their way: each consumer takes its own as an event of its own (R23, R91, R152, R161). Each list
is oldest first. -/
structure Mail where
  reports : List PulseReport          -- to the matchers (R23)
  toStore : List VehicleRecord        -- to the Record Store (R91)
  toTally : List VehicleRecord        -- to the Tally Unit (R91)
  toDrift : List VehicleRecord        -- to the Drift Tracker (R91)
  toCapture : List CaptureDelivery    -- to the Capture Unit (R91)
  toUnits : List Supervision          -- to the lane's channel units (R28, R91)
  drops : List LaneId                 -- drops reported by the store to the Tally Unit (R161)
  tempOffers : List TableSet          -- to the Temperature Unit (R152)
  driftOffers : List DriftOffer       -- to the Drift Tracker (R152)
  siteOffers : List SiteItem          -- to the Tally Unit and the Record Store (R152)
deriving DecidableEq, Repr

/-! ## The whole device -/

structure State where
  pending : List Instr
  tb : Timebase
  lanes : Four Lane
  temp : TempUnit
  drift : DriftTracker
  tables : TableStore
  store : RecordStore
  tally : TallyUnit
  capture : CaptureUnit
  link : Link
  mail : Mail
deriving DecidableEq, Repr

/-- Reasons a step could stop with a fault: none. The spec gives every command an effect in every state, so this type has no
constructor and no meaning can answer with a fault (safe). -/
inductive Fault where
deriving DecidableEq, Repr

/-- Reasons a step could be refused. -/
inductive Refusal where
  /-- Raised by an arm of exec whose command has no meaning yet; no arm does (safe). -/
  | notModelled (mnemonic : String)
deriving DecidableEq, Repr

/-! ## Start values -/

/-- Channel unit after power-on (R36). -/
def ChannelUnit.start : ChannelUnit :=
  { y := 0, baseline := 0, detector := .quiet, service := .disabled, overlong := 0, miss := 0, settings := none,
    generation := none, waiting := none, seed := false, lastExcess := 0 }

/-- Matcher after power-on (R54). -/
def Matcher.start : Matcher := { list1 := [], list2 := [], queue := [], windows := none, mark := none }

/-- Assembler after power-on (R93). -/
def Assembler.start : Assembler :=
  { adopted := none, working := none, service := .out, presence := false, presenceRun := 0,
    heldSpeed := Config.heldSpeedStart, context := none }

/-- Lane after power-on. -/
def Lane.start : Lane :=
  { units := Four.fill ChannelUnit.start, matcher := Matcher.start, asm := Assembler.start }

/-- Timebase after power-on (R14). -/
def Timebase.start : Timebase :=
  { t := 0, refHigh := false, lock := .unlocked, nRef := Config.nominalRate, tLast := none, lastInterval := none,
    run := [], rejectRun := 0, seconds := 0, mark := 0, rejectedEdges := 0, relocks := 0 }

/-- Probe after power-on (R73). -/
def Probe.start : Probe :=
  { role := .none, points := [], state := .absent, lastF10 := none, lastReading := none, smoothed := none,
    rejectRun := 0, recovery := none, edges := 0 }

/-- Temperature Unit after power-on (R73). -/
def TempUnit.start : TempUnit :=
  { probes := Four.fill Probe.start, gate := none, gateLength := SiteItem.standard.gate, q := SiteItem.standard.q,
    jump := SiteItem.standard.jump, selection := .none, tw := Config.twStart, held := true }

/-- Drift batch after power-on (R144). -/
def DriftBand.start : DriftBand := { kd := Config.factorOne, sum := 0, n := 0, rejected := 0 }

/-- Drift Tracker after power-on (R144). -/
def DriftTracker.start : DriftTracker :=
  { policy := DriftItem.standard, lanes := Four.fill { frozen := false, bands := Eight.fill DriftBand.start } }

/-- Table Store after power-on (R158). -/
def TableStore.start : TableStore := { staging := none, active := none, retiring := none, counter := 0 }

/-- Record Store after power-on (R172). -/
def RecordStore.start : RecordStore :=
  { held := [], serial := some 1, dropped := 0, armed := true, threshold := SiteItem.standard.threshold }

/-- A tally with every count 0, opened at the given T_w (R168, R169). -/
def Tally.opened (tw : Int) : Tally :=
  { classes := List.replicate 32 0, qualities := List.replicate 10 0, speeds := List.replicate 16 0,
    gvws := List.replicate 16 0, axleLoads := List.replicate 16 0, axleOver := 0, gvwOver := 0, laneBanned := 0,
    spikes := 0, singleRow := 0, dropped := 0, twMin := tw, twMax := tw, twLast := tw }

/-- Tally Unit after power-on (R172). -/
def TallyUnit.start : TallyUnit :=
  { active := Four.fill (Tally.opened Config.twStart), openedAt := 0, extension := 0,
    interval := SiteItem.standard.interval, queue := [] }

/-- Capture Unit after power-on and after a restart (R178). -/
def CaptureUnit.start : CaptureUnit :=
  { state := .idle, lane := none, d := none, trigger := none, buffer := [], startTick := none, truncated := false,
    description := none, nextWrite := 0 }

/-- Message Link after power-on (R184), at the rate the straps select (R179). -/
def Link.start (rate : LineRate) : Link :=
  { rate := rate, rx := .hunt, lastByte := 0, requests := [], overrunSlot := none,
    outgoing := [.notice (.started true false)], sending := none, badFrames := 0, overruns := 0 }

/-- Nothing on its way between the blocks. -/
def Mail.empty : Mail :=
  { reports := [], toStore := [], toTally := [], toDrift := [], toCapture := [], toUnits := [], drops := [],
    tempOffers := [], driftOffers := [], siteOffers := [] }

/-- The device right after reset, that is, after power-on with both rate straps low and no command waiting. -/
def State.reset : State :=
  { pending := []
    tb := Timebase.start
    lanes := Four.fill Lane.start
    temp := TempUnit.start
    drift := DriftTracker.start
    tables := TableStore.start
    store := RecordStore.start
    tally := TallyUnit.start
    capture := CaptureUnit.start
    link := Link.start .r115200
    mail := Mail.empty }

end Sys2Proof.Machine
end

