-- ==== Sys2Proof/Machine/Ops.lean ====
section
/-! DEFINITION. The operations the commands share: rounding and saturation, tick arithmetic, access to the parts of the state,
raising a notice (R182), answering a request (R181), and putting a channel unit back with the notices its change raises. -/

namespace Sys2Proof.Machine

/-! ## Arithmetic (Rounding and saturation) -/

/-- n / d to nearest, halves away from zero, for naturals. -/
def roundNat (n d : Nat) : Nat := (2 * n + d) / (2 * d)

/-- n / d to nearest, halves away from zero, for a signed numerator. -/
def roundInt (n : Int) (d : Nat) : Int :=
  if 0 ≤ n then (roundNat n.toNat d : Int) else -(roundNat (-n).toNat d : Int)

/-- n / d rounded up. -/
def ceilNat (n d : Nat) : Nat := (n + (d - 1)) / d

/-- Clamped to a range of naturals. -/
def clampNat (lo hi n : Nat) : Nat := max lo (min hi n)

/-- Clamped to a range of integers. -/
def clampInt (lo hi n : Int) : Int := max lo (min hi n)

/-- One more, saturating at a cap. -/
def bump (cap n : Nat) : Nat := min cap (n + 1)

/-- The distance of two naturals. -/
def distNat (a b : Nat) : Nat := (a - b) + (b - a)

/-- A setting in km/h as mm/s (Units). -/
def kmhToMm (v : Nat) : Nat := roundNat (v * 10000) 36

/-- An internal speed in mm/s as 0.1 km/h (Units). -/
def mmToTenthKmh (v : Nat) : Nat := roundNat (v * 36) 1000

/-- A quantity scaled by a factor (Factors). -/
def scaleBy (q k : Nat) : Nat := roundNat (q * k) Config.factorOne

/-! ## Tick arithmetic -/

/-- now − then modulo 2^32, unsigned. -/
def ticksSince (now past : Tick) : Nat := (now - past).toNat

/-- The distance of two ticks, in either direction. -/
def tickDist (a b : Tick) : Nat := min (ticksSince a b) (ticksSince b a)

/-- a is strictly before b: b − a lies between 1 and 2^31 − 1 (R51). -/
def tickBefore (a b : Tick) : Bool := 1 ≤ ticksSince b a && ticksSince b a < 2 ^ 31

/-- A tick a given number of ticks later. -/
def tickAdd (a : Tick) (n : Nat) : Tick := a + BitVec.ofNat 32 n

/-- A tick a given number of ticks earlier. -/
def tickSub (a : Tick) (n : Nat) : Tick := a - BitVec.ofNat 32 n

/-! ## Numbering -/

/-- The row of a half-strip. -/
def rowOf (p : Strip) : Row := if p.val < 2 then .one else .two

/-- The side of a half-strip. -/
def sideOf (p : Strip) : Side := if p.val % 2 = 0 then .left else .right

/-- The other side. -/
def Side.other : Side → Side
  | .left => .right
  | .right => .left

/-- The half-strip of a row and a side. -/
def stripOf : Row → Side → Strip
  | .one, .left => 0
  | .one, .right => 1
  | .two, .left => 2
  | .two, .right => 3

/-- The half-strip of the other side of the same row, a unit's partner (R28). -/
def partnerStrip (p : Strip) : Strip := stripOf (rowOf p) (sideOf p).other

/-- The channel number, 1 to 16 (Numbering). -/
def channelNumber (c : ChannelId) : Nat := 4 * c.lane.val + c.strip.val + 1

/-- The channel of a number 1 to 16. -/
def channelOfNumber (n : Nat) : Option ChannelId :=
  if 1 ≤ n ∧ n ≤ 16 then some ⟨Fin.ofNat 4 ((n - 1) / 4), Fin.ofNat 4 ((n - 1) % 4)⟩ else none

/-- A lane or probe of a number 1 to 4. -/
def fourOfNumber (n : Nat) : Option (Fin 4) :=
  if 1 ≤ n ∧ n ≤ 4 then some (Fin.ofNat 4 (n - 1)) else none

/-- The sixteen channels, lowest number first. -/
def allChannels : List ChannelId := fours.flatMap fun l => fours.map fun p => ⟨l, p⟩

/-! ## Access to lanes and units -/

/-- The state with one lane replaced. -/
def State.setLane (s : State) (ln : LaneId) (l : Lane) : State := { s with lanes := s.lanes.set ln l }

/-- The state with one lane's matcher replaced. -/
def State.setMatcher (s : State) (ln : LaneId) (m : Matcher) : State :=
  s.setLane ln { s.lanes.get ln with matcher := m }

/-- The state with one lane's assembler replaced. -/
def State.setAsm (s : State) (ln : LaneId) (a : Assembler) : State :=
  s.setLane ln { s.lanes.get ln with asm := a }

/-- A lane's matcher. -/
def State.matcher (s : State) (ln : LaneId) : Matcher := (s.lanes.get ln).matcher

/-- A lane's assembler. -/
def State.asm (s : State) (ln : LaneId) : Assembler := (s.lanes.get ln).asm

/-- A channel's unit. -/
def State.unit (s : State) (ch : ChannelId) : ChannelUnit := (s.lanes.get ch.lane).units.get ch.strip

/-- The state with one channel's unit replaced and nothing else. -/
def State.setUnit (s : State) (ch : ChannelId) (u : ChannelUnit) : State :=
  s.setLane ch.lane { s.lanes.get ch.lane with units := (s.lanes.get ch.lane).units.set ch.strip u }

/-- A matcher's half-crossing list of one row. -/
def Matcher.list (m : Matcher) : Row → List PulseReport
  | .one => m.list1
  | .two => m.list2

/-- The matcher with the half-crossing list of one row replaced. -/
def Matcher.setList (m : Matcher) (r : Row) (l : List PulseReport) : Matcher :=
  match r with
  | .one => { m with list1 := l }
  | .two => { m with list2 := l }

/-! ## Notices (R182) -/

/-- No change marked. -/
def ChangeSet.none : ChangeSet := { channels := 0, probes := 0, lanes := 0, timebase := false }

/-- Union of two change sets. -/
def ChangeSet.union (a b : ChangeSet) : ChangeSet :=
  { channels := a.channels ||| b.channels, probes := a.probes ||| b.probes, lanes := a.lanes ||| b.lanes,
    timebase := a.timebase || b.timebase }

/-- The two notices are of one kind. -/
def Notice.sameKind : Notice → Notice → Bool
  | .started _ _, .started _ _ => true
  | .recordsReady _ _, .recordsReady _ _ => true
  | .tallyClosed _, .tallyClosed _ => true
  | .serviceChange _, .serviceChange _ => true
  | .driftUpdated _, .driftUpdated _ => true
  | .captureHeld _, .captureHeld _ => true
  | _, _ => false

/-- The bits of eight-bit sets joined lane by lane. -/
def orLanes (a b : Four (BitVec 8)) : Four (BitVec 8) :=
  { a := a.a ||| b.a, b := a.b ||| b.b, c := a.c ||| b.c, d := a.d ||| b.d }

/-- A pending notice with a later raise of its kind merged into it (table of R182): sets are united, values are those of the
later raise. -/
def Notice.merge : Notice → Notice → Notice
  | .started p r, .started p' r' => .started (p || p') (r || r')
  | .serviceChange a, .serviceChange b => .serviceChange (a.union b)
  | .driftUpdated a, .driftUpdated b => .driftUpdated (orLanes a b)
  | _, later => later

/-- A raise taken by the frames not yet begun: merged into the pending instance of its kind, which keeps its place, or joined
at the tail (R182). -/
def raiseIn : List OutFrame → Notice → List OutFrame
  | [], n => [.notice n]
  | .reply r :: fs, n => .reply r :: raiseIn fs n
  | .notice m :: fs, n => if m.sameKind n then .notice (m.merge n) :: fs else .notice m :: raiseIn fs n

/-- A notice is raised (R182). -/
def State.raise (s : State) (n : Notice) : State :=
  { s with link := { s.link with outgoing := raiseIn s.link.outgoing n } }

/-- SERVICE_CHANGE is raised with one channel marked (R31). -/
def State.raiseChannel (s : State) (ch : ChannelId) : State :=
  s.raise (.serviceChange { ChangeSet.none with channels := BitVec.twoPow 16 (channelNumber ch - 1) })

/-- SERVICE_CHANGE is raised with one probe marked (R71). -/
def State.raiseProbe (s : State) (p : ProbeId) : State :=
  s.raise (.serviceChange { ChangeSet.none with probes := BitVec.twoPow 8 p.val })

/-- SERVICE_CHANGE is raised with one lane marked (R74). -/
def State.raiseLane (s : State) (ln : LaneId) : State :=
  s.raise (.serviceChange { ChangeSet.none with lanes := BitVec.twoPow 8 ln.val })

/-- SERVICE_CHANGE is raised with the timebase marked (R13). -/
def State.raiseTimebase (s : State) : State :=
  s.raise (.serviceChange { ChangeSet.none with timebase := true })

/-! ## Reported lane state (R74) -/

/-- The reported service state of a lane. -/
inductive Reported where
  | out | degraded | inService
deriving DecidableEq, Repr

/-- A unit that is ACTIVE or SUSPECT, that is, running (R15). -/
def ChannelUnit.running (u : ChannelUnit) : Bool :=
  match u.service with
  | .active | .suspect => true
  | .failed | .disabled => false

/-- The reported state of a lane: OUT; DEGRADED with a channel FAILED or DISABLED; otherwise IN_SERVICE. -/
def Lane.reported (l : Lane) : Reported :=
  match l.asm.service with
  | .out => .out
  | .inService =>
    if l.units.a.running && l.units.b.running && l.units.c.running && l.units.d.running then .inService else .degraded

/-- SERVICE_CHANGE for a lane whose reported state differs from the one before. -/
def State.raiseReported (s : State) (before : Reported) (ln : LaneId) : State :=
  if (s.lanes.get ln).reported = before then s else s.raiseLane ln

/-- A channel's unit is replaced. A change of its service state raises SERVICE_CHANGE with the channel marked (R31), and with
the lane marked when the lane's reported state changes with it (R74). -/
def State.putUnit (s : State) (ch : ChannelId) (u : ChannelUnit) : State :=
  if (s.unit ch).service = u.service then s.setUnit ch u
  else ((s.setUnit ch u).raiseChannel ch).raiseReported (s.lanes.get ch.lane).reported ch.lane

/-! ## Answering a request (R181) -/

/-- The oldest unserved request of the queue marked served, if it is the given one; with whether it was. -/
def serveFirst (kind tag : Byte) (body : List Byte) : List Request → List Request × Bool
  | [] => ([], false)
  | r :: rs =>
    if r.served then
      let (rs', hit) := serveFirst kind tag body rs
      (r :: rs', hit)
    else if r.kind = kind ∧ r.tag = tag ∧ r.body = body then ({ r with served := true } :: rs, true)
    else (r :: rs, false)

/-- Serving creates exactly one reply, with kind = request kind + 0x80 and the request's tag; it enters the outgoing queue
(R181). The request keeps its place in the queue, marked served, until the reply's transmission ends. -/
def State.answer (s : State) (kind tag : Byte) (body reply : List Byte) : State :=
  let (requests, hit) := serveFirst kind tag body s.link.requests
  { s with link := { s.link with
      requests := requests
      outgoing := s.link.outgoing ++
        [.reply { kind := kind + 0x80, tag := tag, body := reply, source := if hit then .queued else .direct }] } }

end Sys2Proof.Machine
end

