-- ==== Sys2Proof/Machine/Operands.lean ====
section
/-! DEFINITION. The operands of the requests: little-endian fields of a body (R185), the identity, length and fields of an
item (R181, R185), and the checks an item must pass alone (R147). -/

namespace Sys2Proof.Machine

/-! ## Fields -/

/-- A little-endian unsigned field (R185). -/
def leNat : List Byte → Nat
  | [] => 0
  | b :: bs => b.toNat + 256 * leNat bs

/-- A little-endian two's complement field of two bytes (R185). -/
def leInt16 (bs : List Byte) : Int := (BitVec.ofNat 16 (leNat bs)).toInt

/-- The bytes of a body from an offset on, a given number of them. -/
def slice (body : List Byte) (off len : Nat) : List Byte := (body.drop off).take len

/-- The unsigned field of a body at an offset. -/
def field (body : List Byte) (off len : Nat) : Nat := leNat (slice body off len)

/-- A yes/no field: 1 and 0 and nothing else (R185). -/
def flagOf : Nat → Option Bool
  | 0 => some false
  | 1 => some true
  | _ => none

/-- A number of entries of one width, one after another. -/
def entries (width : Nat) : Nat → List Byte → List (List Byte)
  | 0, _ => []
  | n + 1, bs => bs.take width :: entries width n (bs.drop width)

/-- Within a range, bounds included. -/
def within (lo hi n : Nat) : Bool := lo ≤ n && n ≤ hi

/-- Within a signed range, bounds included. -/
def withinInt (lo hi n : Int) : Bool := lo ≤ n && n ≤ hi

/-- Strictly increasing. -/
def increasing : List Nat → Bool
  | [] => true
  | [_] => true
  | x :: y :: r => x < y && increasing (y :: r)

/-! ## Item identity and length -/

/-- The item of a kind code and an index; none when the kind is unknown or the index outside its range (R146, R185). -/
def itemIdOf (kind index : Nat) : Option ItemId :=
  match kind with
  | 0 => if index = 0 then some .site else none
  | 1 => (fourOfNumber index).map .lane
  | 2 => (channelOfNumber index).map .channel
  | 3 => (fourOfNumber index).map .speedTab
  | 4 => if index = 0 then some .tempTab else none
  | 5 => if h : index < 32 then some (.classRule ⟨index, h⟩) else none
  | 6 => if index = 0 then some .drift else none
  | 7 => (fourOfNumber index).map .probe
  | _ => none

/-- The length of an item's fields, taken from the count byte of its list as sent; none when the fields are too short to hold
that byte (R181, R185). -/
def fieldsLength (id : ItemId) (fields : List Byte) : Option Nat :=
  match id with
  | .site => some 16
  | .lane _ => some 36
  | .channel _ => some 20
  | .speedTab _ => fields[0]?.map fun c => 1 + 4 * c.toNat
  | .tempTab => fields[0]?.map fun c => 1 + 2 * c.toNat
  | .classRule _ => fields[7]?.map fun c => 24 + 4 * c.toNat
  | .drift => some 12
  | .probe _ => fields[2]?.map fun c => 3 + 6 * c.toNat

/-! ## Fields of an item (R185) -/

/-- SITE from its fields. -/
def readSite (f : List Byte) : SiteItem :=
  { interval := field f 0 2, threshold := field f 2 2, axleLimit := field f 4 2, gvwLimit := field f 6 4,
    gate := field f 10 2, q := field f 12 2, jump := field f 14 2 }

/-- LANE from its fields; none for a yes/no field that is neither. -/
def readLane (f : List Byte) : Option LaneItem :=
  match flagOf (field f 0 2), flagOf (field f 2 2) with
  | some enabled, some loop => some
    { enabled := enabled, loop := loop, rowSpacing := field f 4 2, vLo := field f 6 2, vHi := field f 8 2,
      pairWindow := field f 10 2, hold := field f 12 2, sMax := field f 14 2, gapLoop := field f 16 2,
      gapNoLoop := field f 18 2, openLimit := field f 20 2, fallback := field f 22 2, validLow := field f 24 2,
      validHigh := field f 26 2, accelTol := field f 28 2, rowTol := field f 30 2,
      permit := BitVec.ofNat 32 (field f 32 4) }
  | _, _ => none

/-- CHANNEL from its fields; none for an enable that is neither yes nor no. -/
def readChannel (f : List Byte) : Option ChannelItem :=
  (flagOf (field f 0 2)).map fun enabled =>
    { enabled := enabled, k := field f 2 2, m := field f 4 2, thOn := field f 6 2, thOff := field f 8 2,
      cOn := field f 10 2, cOff := field f 12 2, wMin := field f 14 2, wMax := field f 16 2,
      sensitivity := field f 18 2 }

/-- The points of a SPEEDTAB: (speed in km/h, factor). -/
def readSpeedTab (f : List Byte) : List (Nat × Nat) :=
  (entries 4 (field f 0 1) (f.drop 1)).map fun e => (field e 0 2, field e 2 2)

/-- The factors of TEMPTAB. -/
def readTempTab (f : List Byte) : List Nat := (entries 2 (field f 0 1) (f.drop 1)).map leNat

/-- A CLASS item: none for presence bits 5 to 7, some none for the empty rule, whose other fields are ignored (R185). -/
def readClass (f : List Byte) : Option (Option ClassRule) :=
  let presence := field f 0 1
  let count := field f 7 1
  let tail := f.drop (8 + 4 * count)
  if 32 ≤ presence then none
  else if presence % 2 = 0 then some none
  else some (some
    { code := field f 1 2
      axles := { min := field f 3 2, max := field f 5 2 }
      spacings := (entries 4 count (f.drop 8)).map fun e => { min := field e 0 2, max := field e 2 2 }
      gvw := if presence / 2 % 2 = 1 then some { min := field tail 0 4, max := field tail 4 4 } else none
      minFirstAxle := if presence / 4 % 2 = 1 then some (field tail 8 2) else none
      axleLimit := if presence / 8 % 2 = 1 then some (field tail 10 2) else none
      gvwLimit := if presence / 16 % 2 = 1 then some (field tail 12 4) else none })

/-- DRIFT from its fields. -/
def readDrift (f : List Byte) : DriftItem :=
  { refClass := field f 0 2, target := field f 2 2, window := field f 4 2, batch := field f 6 2, gain := field f 8 2,
    maxStep := field f 10 2 }

/-- The role of a code (R185). -/
def roleOf : Nat → Option Role
  | 0 => some .primary
  | 1 => some .alternate
  | 2 => some .surface
  | 3 => some .deep
  | 4 => some .none
  | _ => none

/-- PROBE from its fields; none for an undefined role code. -/
def readProbe (f : List Byte) : Option ProbeItem :=
  (roleOf (field f 0 2)).map fun role =>
    { role := role, points := (entries 6 (field f 2 1) (f.drop 3)).map fun e => (field e 0 4, leInt16 (slice e 4 2)) }

/-- The item that the fields of an identity spell; none for an undefined code or bit. -/
def readItem (id : ItemId) (f : List Byte) : Option Item :=
  match id with
  | .site => some (.site (readSite f))
  | .lane n => (readLane f).map (.lane n)
  | .channel ch => (readChannel f).map (.channel ch)
  | .speedTab n => some (.speedTab n (readSpeedTab f))
  | .tempTab => some (.tempTab (readTempTab f))
  | .classRule i => (readClass f).map (.classRule i)
  | .drift => some (.drift (readDrift f))
  | .probe p => (readProbe f).map (.probe p)

/-! ## The checks of an item alone (R147) -/

/-- SITE (R147, 4.1, 7.5, 9.1). -/
def SiteItem.ok (v : SiteItem) : Bool :=
  (v.interval = 1 || v.interval = 5 || v.interval = 15 || v.interval = 60) && within 1 64 v.threshold &&
  within 1000 65534 v.axleLimit && within 1000 851942 v.gvwLimit && within 1000 50000 v.gate && within 0 6 v.q &&
  within 5 200 v.jump

/-- LANE (R147, 3.1, 5.1, 7.3). -/
def LaneItem.ok (v : LaneItem) : Bool :=
  within 1000 6000 v.rowSpacing && within 5 50 v.vLo && within 100 250 v.vHi && within 5 500 v.pairWindow &&
  within v.pairWindow 2000 v.hold && within 3000 20000 v.sMax && within 500 20000 v.gapLoop &&
  within 2000 30000 v.gapNoLoop && within 10 120 v.openLimit && within 10 200 v.fallback &&
  within 5 250 v.validLow && within 5 250 v.validHigh && v.validLow ≤ v.validHigh && within 10 300 v.accelTol &&
  within 5 50 v.rowTol

/-- CHANNEL (R32, R111, R147). -/
def ChannelItem.ok (v : ChannelItem) : Bool :=
  within 0 6 v.k && within 6 14 v.m && within 16 16000 v.thOn && within 0 v.thOn v.thOff && within 1 15 v.cOn &&
  within 1 15 v.cOff && within 5 2000 v.wMin && within 500 60000 v.wMax && v.wMin < v.wMax &&
  within 1 65535 v.sensitivity

/-- SPEEDTAB (R111, R147). -/
def speedTabOk (points : List (Nat × Nat)) : Bool :=
  points.length ≤ 8 && points.all (fun p => within 5 250 p.1 && within 8192 32767 p.2) &&
  increasing (points.map Prod.fst)

/-- TEMPTAB (R111, R147). -/
def tempTabOk (factors : List Nat) : Bool := factors.length = 9 && factors.all (within 8192 32767)

/-- A class rule's fields within their ranges (R114, R147, 7.1). -/
def ClassRule.ok (r : ClassRule) : Bool :=
  within 1 31 r.code && within 1 13 r.axles.min && within 1 13 r.axles.max && r.spacings.length ≤ 12 &&
  r.spacings.all (fun b => within 0 6000 b.min && within 0 6000 b.max) &&
  r.gvw.all (fun b => within 0 851942 b.min && within 0 851942 b.max) && r.minFirstAxle.all (within 0 65534) &&
  r.axleLimit.all (within 1 65534) && r.gvwLimit.all (within 1 851942)

/-- DRIFT (R147, 8.1). -/
def DriftItem.ok (v : DriftItem) : Bool :=
  within 0 31 v.refClass && within 1000 20000 v.target && within 5 50 v.window && within 8 255 v.batch &&
  within 1 256 v.gain && within 1 100 v.maxStep

/-- PROBE (R147, 4.1). -/
def ProbeItem.ok (v : ProbeItem) : Bool :=
  v.points.length ≤ 17 && v.points.all (fun p => within 1 4000000 p.1 && withinInt (-400) 850 p.2) &&
  increasing (v.points.map Prod.fst)

/-- The checks of an item's kind (R147). -/
def Item.ok : Item → Bool
  | .site v => v.ok
  | .lane _ v => v.ok
  | .channel _ v => v.ok
  | .speedTab _ points => speedTabOk points
  | .tempTab factors => tempTabOk factors
  | .classRule _ v => v.all ClassRule.ok
  | .drift v => v.ok
  | .probe _ v => v.ok

end Sys2Proof.Machine
end

