-- ==== Sys2Proof/Machine/Wire.lean ====
section
/-! DEFINITION. The wire layouts of R185: little-endian fields with their absent values, items, records, tally entries and
notices; and the frame with its CRC (R179). -/

namespace Sys2Proof.Machine

/-! ## Fields (R185) -/

/-- A value in a number of bytes, little-endian. -/
def leBytes : Nat → Nat → List Byte
  | 0, _ => []
  | n + 1, v => BitVec.ofNat 8 v :: leBytes n (v / 256)

/-- A signed value in a number of bytes, two's complement. -/
def leSigned (n : Nat) (v : Int) : List Byte := leBytes n (v % (256 ^ n : Nat)).toNat

/-- Yes, set and on as 1; no, clear and off as 0. -/
def flagByte (b : Bool) : List Byte := [if b then 1 else 0]

/-- A code in one byte. -/
def codeByte (n : Nat) : List Byte := leBytes 1 n

/-- An optional generation number or serial: 0 when absent. -/
def optZero (n : Nat) (v : Option Nat) : List Byte := leBytes n (v.getD 0)

/-- An optional field of another kind: all ones in its width when absent. -/
def optOnes (n : Nat) (v : Option Nat) : List Byte := leBytes n (v.getD (256 ^ n - 1))

/-- An optional signed temperature: 0x8000 when absent. -/
def optTemp (v : Option Int) : List Byte := leSigned 2 (v.getD (-32768))

/-- An optional yes/no field: 0xFF when absent. -/
def optFlag (v : Option Bool) : List Byte :=
  match v with
  | some b => flagByte b
  | none => [0xFF]

/-- An optional field whose range fills its four bytes, preceded by its presence byte. -/
def optWord (v : Option Nat) : List Byte :=
  match v with
  | some n => 1 :: leBytes 4 n
  | none => [0, 0, 0, 0, 0]

/-- An optional tick value. -/
def optTick (v : Option Tick) : List Byte := optWord (v.map BitVec.toNat)

/-! ## Result codes (R185) -/

def codeOk : Byte := 0x00
def codeBusy : Byte := 0x01
def codeBadLength : Byte := 0x02
def codeBadKind : Byte := 0x03
def codeBadValue : Byte := 0x04
def codeNoStage : Byte := 0x05
def codeNotFound : Byte := 0x06
def codeInvalidItem : Byte := 0x07
def codeOverrun : Byte := 0x08

/-! ## Items (R185) -/

/-- The kind code and the index of an item identity. -/
def ItemId.codes : ItemId → Nat × Nat
  | .site => (0, 0)
  | .lane n => (1, n.val + 1)
  | .channel ch => (2, channelNumber ch)
  | .speedTab n => (3, n.val + 1)
  | .tempTab => (4, 0)
  | .classRule i => (5, i.val)
  | .drift => (6, 0)
  | .probe p => (7, p.val + 1)

/-- The identity of an item. -/
def Item.id : Item → ItemId
  | .site _ => .site
  | .lane n _ => .lane n
  | .channel ch _ => .channel ch
  | .speedTab n _ => .speedTab n
  | .tempTab _ => .tempTab
  | .classRule i _ => .classRule i
  | .drift _ => .drift
  | .probe p _ => .probe p

/-- The code of a role (R185). -/
def Role.code : Role → Nat
  | .primary => 0
  | .alternate => 1
  | .surface => 2
  | .deep => 3
  | .none => 4

/-- A yes/no item field, two bytes. -/
def flag2 (b : Bool) : List Byte := leBytes 2 (if b then 1 else 0)

/-- The presence byte of a class rule. -/
def ClassRule.presence (r : ClassRule) : Nat :=
  1 + (if r.gvw.isSome then 2 else 0) + (if r.minFirstAxle.isSome then 4 else 0) +
  (if r.axleLimit.isSome then 8 else 0) + (if r.gvwLimit.isSome then 16 else 0)

/-- The fields of a CLASS item: ignored fields are sent as 0 and the empty rule with a spacing count of 0 (R185). -/
def classBytes : Option ClassRule → List Byte
  | none => List.replicate 24 0
  | some r =>
    codeByte r.presence ++ leBytes 2 r.code ++ leBytes 2 r.axles.min ++ leBytes 2 r.axles.max ++
    codeByte r.spacings.length ++ r.spacings.flatMap (fun b => leBytes 2 b.min ++ leBytes 2 b.max) ++
    leBytes 4 (r.gvw.elim 0 Bounds.min) ++ leBytes 4 (r.gvw.elim 0 Bounds.max) ++ leBytes 2 (r.minFirstAxle.getD 0) ++
    leBytes 2 (r.axleLimit.getD 0) ++ leBytes 4 (r.gvwLimit.getD 0)

/-- The fields of an item in the order of R185. -/
def Item.fields : Item → List Byte
  | .site v =>
    leBytes 2 v.interval ++ leBytes 2 v.threshold ++ leBytes 2 v.axleLimit ++ leBytes 4 v.gvwLimit ++
    leBytes 2 v.gate ++ leBytes 2 v.q ++ leBytes 2 v.jump
  | .lane _ v =>
    flag2 v.enabled ++ flag2 v.loop ++ leBytes 2 v.rowSpacing ++ leBytes 2 v.vLo ++ leBytes 2 v.vHi ++
    leBytes 2 v.pairWindow ++ leBytes 2 v.hold ++ leBytes 2 v.sMax ++ leBytes 2 v.gapLoop ++ leBytes 2 v.gapNoLoop ++
    leBytes 2 v.openLimit ++ leBytes 2 v.fallback ++ leBytes 2 v.validLow ++ leBytes 2 v.validHigh ++
    leBytes 2 v.accelTol ++ leBytes 2 v.rowTol ++ leBytes 4 v.permit.toNat
  | .channel _ v =>
    flag2 v.enabled ++ leBytes 2 v.k ++ leBytes 2 v.m ++ leBytes 2 v.thOn ++ leBytes 2 v.thOff ++ leBytes 2 v.cOn ++
    leBytes 2 v.cOff ++ leBytes 2 v.wMin ++ leBytes 2 v.wMax ++ leBytes 2 v.sensitivity
  | .speedTab _ points =>
    codeByte points.length ++ points.flatMap fun p => leBytes 2 p.1 ++ leBytes 2 p.2
  | .tempTab factors => codeByte factors.length ++ factors.flatMap (leBytes 2)
  | .classRule _ v => classBytes v
  | .drift v =>
    leBytes 2 v.refClass ++ leBytes 2 v.target ++ leBytes 2 v.window ++ leBytes 2 v.batch ++ leBytes 2 v.gain ++
    leBytes 2 v.maxStep
  | .probe _ v =>
    leBytes 2 v.role.code ++ codeByte v.points.length ++ v.points.flatMap fun p => leBytes 4 p.1 ++ leSigned 2 p.2

/-- An item as it stands in a STAGE_PUT body and a TABLE_READ reply: kind, index, fields (R185). -/
def Item.bytes (i : Item) : List Byte := codeByte i.id.codes.1 ++ codeByte i.id.codes.2 ++ i.fields

/-! ## Records and tallies (R185) -/

/-- The code of a row mark. -/
def RowMark.code : RowMark → Nat
  | .both => 0
  | .row1 => 1
  | .row2 => 2

/-- The code of a single-wheel mark. -/
def SingleMark.code : SingleMark → Nat
  | .clear => 0
  | .wheelMissed => 1
  | .sideOut => 2

/-- The code of a quality: GOOD 0, then 1 to 9 in check order. -/
def Quality.code : Quality → Nat
  | .good => 0
  | .fragment => 1
  | .incomplete => 2
  | .straddle => 3
  | .speedRange => 4
  | .acceleration => 5
  | .singleRow => 6
  | .rowDisagree => 7
  | .offscale => 8
  | .split => 9

/-- One bit of a mark set. -/
def bitAt (b : Bool) (weight : Nat) : Nat := if b then weight else 0

/-- An axle entry, 11 bytes. -/
def AxleEntry.bytes (e : AxleEntry) : List Byte :=
  leBytes 2 e.load ++ leBytes 2 e.left ++ leBytes 2 e.right ++ optOnes 2 e.spacing ++ optOnes 2 e.speed ++
  codeByte (e.row.code + bitAt e.straddle 4 + e.single.code * 8)

/-- A vehicle record, 34 bytes, followed by its axle entries. -/
def VehicleRecord.bytes (r : VehicleRecord) : List Byte :=
  optZero 6 r.serial ++ codeByte (r.lane.val + 1) ++ codeByte r.axles.length ++ leBytes 4 r.seconds.toNat ++
  leBytes 2 r.subtick ++ optOnes 2 r.speed ++ codeByte r.cls ++ codeByte r.quality.code ++
  codeByte (bitAt r.split 1 + bitAt r.conditions.tempHeld 2 + bitAt r.conditions.timebaseFree 4 +
    bitAt r.conditions.tailgate 8 + bitAt r.conditions.timeout 16 + bitAt r.conditions.captured 32) ++
  codeByte (bitAt r.flags.axleOver 1 + bitAt r.flags.gvwOver 2 + bitAt r.flags.laneBanned 4) ++ leSigned 2 r.tw ++
  leBytes 2 r.generation ++ leBytes 2 r.kd ++ leBytes 4 r.gvw ++ leBytes 4 r.wheelbase ++
  r.axles.flatMap AxleEntry.bytes

/-- A lane block of a tally entry, each field 2 bytes. -/
def Tally.bytes (t : Tally) : List Byte :=
  (t.classes ++ t.qualities ++ t.speeds ++ t.gvws ++ t.axleLoads ++
    [t.axleOver, t.gvwOver, t.laneBanned, t.spikes, t.singleRow, t.dropped]).flatMap (leBytes 2) ++
  leSigned 2 t.twMin ++ leSigned 2 t.twMax ++ leSigned 2 t.twLast

/-- A tally entry: header, then the four lane blocks. -/
def TallyEntry.bytes (e : TallyEntry) : List Byte :=
  leBytes 4 e.start.toNat ++ leBytes 4 e.finish.toNat ++ leBytes 2 e.extension ++ e.probes.toList.flatMap optTemp ++
  e.lanes.toList.flatMap Tally.bytes

/-! ## Notices (R182) -/

/-- The kind of a notice's frame. -/
def Notice.kind : Notice → Byte
  | .started _ _ => 0xE0
  | .recordsReady _ _ => 0xE1
  | .tallyClosed _ => 0xE2
  | .serviceChange _ => 0xE3
  | .driftUpdated _ => 0xE4
  | .captureHeld _ => 0xE5

/-- The body of a notice after the code byte 0x00. -/
def Notice.contents : Notice → List Byte
  | .started p r => codeByte (bitAt p 1 + bitAt r 2)
  | .recordsReady held oldest => leBytes 2 held ++ optZero 6 oldest
  | .tallyClosed n => codeByte n
  | .serviceChange c =>
    leBytes 2 c.channels.toNat ++ leBytes 1 c.probes.toNat ++ leBytes 1 c.lanes.toNat ++ codeByte (bitAt c.timebase 1)
  | .driftUpdated l => l.toList.flatMap fun b => leBytes 1 b.toNat
  | .captureHeld serial => optZero 6 serial

/-! ## Frames (R179, R185) -/

/-- One step of the CRC register: shift left, with the polynomial x^16 + x^12 + x^5 + 1 taken in when a 1 leaves. -/
def crcShift (r : BitVec 16) : BitVec 16 := if r.msb then (r <<< 1) ^^^ 0x1021#16 else r <<< 1

/-- The CRC register after one byte. -/
def crcByte (r : BitVec 16) (b : Byte) : BitVec 16 :=
  let x := r ^^^ (b.setWidth 16 <<< 8)
  crcShift (crcShift (crcShift (crcShift (crcShift (crcShift (crcShift (crcShift x)))))))

/-- The CRC of a run of bytes: preset 0xFFFF, nothing reflected, no final inversion (R179). -/
def crc16 (bs : List Byte) : BitVec 16 := bs.foldl crcByte 0xFFFF#16

/-- The kind, tag and body of an outgoing frame. Notices carry tag 0 and the code byte 0x00 (R182). -/
def OutFrame.parts : OutFrame → Byte × Byte × List Byte
  | .reply r => (r.kind, r.tag, r.body)
  | .notice n => (n.kind, 0, 0x00 :: n.contents)

/-- The bytes the CRC covers: length, kind, tag and body, in the order sent (R179). -/
def coveredBytes (kind tag : Byte) (body : List Byte) : List Byte := leBytes 2 body.length ++ [kind, tag] ++ body

/-- A frame as sent on the line: sync byte, covered bytes, CRC low byte first (R179, R185). -/
def frameBytes (kind tag : Byte) (body : List Byte) : List Byte :=
  0x5C :: coveredBytes kind tag body ++ leBytes 2 (crc16 (coveredBytes kind tag body)).toNat

/-- The bytes an outgoing frame puts on the line. -/
def OutFrame.bytes (f : OutFrame) : List Byte := frameBytes f.parts.1 f.parts.2.1 f.parts.2.2

end Sys2Proof.Machine
end

