-- ==== Sys2Proof/Machine/Capture.lean ====
section
/-! DEFINITION. The Capture Unit (chapter 11): arming (R173), writing (R174), the start at an open (R175), the test at a close
(R176), fetch and release (R177), and a lane going OUT (R178). -/

namespace Sys2Proof.Machine

/-- The unit writes: ARMED or RECORDING (R174). -/
def CaptureUnit.writing (c : CaptureUnit) : Bool :=
  match c.state with
  | .armed | .recording => true
  | .idle | .held => false

/-- The sets of the capture: from the start to the newest written (R176), each with the tick of its own write (R174). Behind a
stretch in which writing had stopped they are not at start + i × d (the model's choice, notes/assumptions/33.md). -/
def CaptureUnit.sets (c : CaptureUnit) : List SampleSet :=
  match c.startTick with
  | none => []
  | some st => c.buffer.dropWhile fun x => x.tick ≠ st

/-- The next write would overwrite the start: the buffer is full from the start onward (R175). -/
def CaptureUnit.blocked (c : CaptureUnit) : Bool :=
  c.state = .recording && c.startTick.isSome && Config.captureCapacity ≤ c.sets.length

/-- One due write (R174, R175). A blocked write sets the truncated mark. The first set written in RECORDING with no start
becomes the start (R175, the open taken before the first write). -/
def CaptureUnit.write (c : CaptureUnit) (x : SampleSet) : CaptureUnit :=
  let c' := { c with nextWrite := tickAdd c.nextWrite (c.d.getD 1) }
  if c.blocked then { c' with truncated := true }
  else { c' with
    buffer := (if Config.captureCapacity ≤ c.buffer.length then c.buffer.drop 1 else c.buffer) ++ [x]
    startTick := if c.state = .recording ∧ c.startTick = none then some x.tick else c.startTick }

/-- A write is due on this tick. -/
def State.writeDue (s : State) : Bool := s.capture.writing && s.capture.nextWrite = s.tb.t

/-- The conditioned samples of a lane's four channels in the order of R174. -/
def Lane.samples (l : Lane) : Four Int := l.units.map ChannelUnit.y

/-- CAPTURE_WRITE (R174): a sample set of the armed lane is written. -/
def execCaptureWrite (s : State) : Host.Outcome State Fault Refusal :=
  .next (
    if s.writeDue then
      match s.capture.lane with
      | none => s
      | some ln => { s with capture := s.capture.write { tick := s.tb.t, ys := (s.lanes.get ln).samples } }
    else s)

/-- The held set nearest a target tick, the earlier of two equally near (R175). -/
def nearestSet (target : Tick) : List SampleSet → Option SampleSet
  | [] => none
  | x :: rest =>
    match nearestSet target rest with
    | none => some x
    | some y => if tickDist x.tick target ≤ tickDist y.tick target then some x else some y

/-- The start fixed for a target tick, with whether the capture is truncated by it (R175): the oldest held set when the target
lies before it, none when nothing is held. -/
def CaptureUnit.fixStart (c : CaptureUnit) (target : Tick) : CaptureUnit :=
  match c.buffer with
  | [] => { c with state := .recording, startTick := none, truncated := true }
  | oldest :: _ =>
    if tickBefore target oldest.tick then { c with state := .recording, startTick := some oldest.tick, truncated := true }
    else { c with state := .recording, startTick := (nearestSet target c.buffer).map SampleSet.tick }

/-- An open of a lane's vehicle reaches the Capture Unit with its target tick: taken in ARMED for the armed lane only (R175). -/
def State.takeOpen (s : State) (ln : LaneId) (target : Tick) : State :=
  if s.capture.state = .armed ∧ s.capture.lane = some ln then { s with capture := s.capture.fixStart target } else s

/-- A record of the lane is on its way to the Capture Unit. -/
def State.recordComing (s : State) (ln : LaneId) : Bool := s.mail.toCapture.any fun d => d.record.lane = ln

/-- The lane's last record on its way, changed: what happens in a lane waits behind it. -/
def behindLast (ln : LaneId) (f : CaptureDelivery → CaptureDelivery) : List CaptureDelivery → List CaptureDelivery
  | [] => []
  | d :: ds =>
    if d.record.lane = ln ∧ ds.all (fun e => e.record.lane ≠ ln) then f d :: ds else d :: behindLast ln f ds

/-- What has happened in a lane waits behind the lane's last record on its way to the Capture Unit. -/
def State.waitBehind (s : State) (ln : LaneId) (f : CaptureDelivery → CaptureDelivery) : State :=
  { s with mail := { s.mail with toCapture := behindLast ln f s.mail.toCapture } }

/-- An open of the armed lane's vehicle is offered with axle 1's axle time (R175). A record of the lane that is still on its way
reaches the unit first (R176), so the open then waits behind it. -/
def State.captureOpen (s : State) (ln : LaneId) (time : Tick) : State :=
  if s.capture.writing ∧ s.capture.lane = some ln then
    let dtMax := ((s.matcher ln).windows.map Windows.dtMax).getD 0
    let target := tickSub time (roundNat dtMax 10)
    if s.recordComing ln then s.waitBehind ln fun d => { d with opened := some target }
    else s.takeOpen ln target
  else s

/-- A record on its way with nothing waiting behind it. -/
def CaptureDelivery.alone (d : CaptureDelivery) : CaptureDelivery := { d with opened := none, laneOut := false }

/-- What waits behind the records on their way is dropped. -/
def State.dropWaiting (s : State) : State :=
  { s with mail := { s.mail with toCapture := s.mail.toCapture.map CaptureDelivery.alone } }

/-- A trigger holds for a record (R173). -/
def Trigger.holds (t : Trigger) (r : VehicleRecord) : Bool :=
  match t with
  | .next => true
  | .flagged => r.quality ≠ .good
  | .cls c => r.cls = c
  | .enforce => r.flags.axleOver || r.flags.gvwOver || r.flags.laneBanned

/-- CAPTURED set in the record of a serial (R126). -/
def markCaptured (serial : Nat) (r : VehicleRecord) : VehicleRecord :=
  if r.serial = some serial then { r with conditions := { r.conditions with captured := true } } else r

/-- CAPTURED reaches the store's record of a serial, held already or still on its way to the store (R126). -/
def State.setCaptured (s : State) (serial : Option Nat) : State :=
  match serial with
  | none => s
  | some n =>
    { s with store := { s.store with held := s.store.held.map (markCaptured n) },
             mail := { s.mail with toStore := s.mail.toStore.map (markCaptured n) } }

/-- The capture is held for a record: the sets from the start on are kept and described (R176). -/
def CaptureUnit.hold (c : CaptureUnit) (r : VehicleRecord) : CaptureUnit :=
  { c with
    state := .held
    buffer := c.sets
    description := some
      { serial := r.serial, lane := r.lane, startTick := c.startTick, d := c.d.getD 1, count := c.sets.length,
        truncated := c.truncated } }

/-- A closed record of the armed lane is tested in RECORDING (R176). When the trigger fails the buffer keeps its sets, with the
gap that a stopped writing left in their ticks (the model's choice, notes/assumptions/33.md). -/
def State.closeTest (s : State) (r : VehicleRecord) : State :=
  if s.capture.state = .recording ∧ s.capture.lane = some r.lane then
    if s.capture.trigger.any fun t => t.holds r then
      State.raise ({ s with capture := s.capture.hold r }.setCaptured r.serial) (.captureHeld r.serial)
    else { s with capture := { s.capture with state := .armed, startTick := none, truncated := false } }
  else s

/-- The armed lane is OUT: an ARMED or RECORDING unit enters IDLE as by CAPTURE_RELEASE, a HELD one is kept (R178). -/
def State.takeLaneOut (s : State) (ln : LaneId) : State :=
  if s.capture.writing ∧ s.capture.lane = some ln then { s with capture := CaptureUnit.start } else s

/-- What waited behind a record: that its lane went OUT, and after that an open. An OUT lane opens no vehicle, so the open is one of
the lane back in service, and an open that came before the lane went OUT has a later close behind it. -/
def State.takeWaiting (s : State) (d : CaptureDelivery) : State :=
  let told := if d.laneOut then s.takeLaneOut d.record.lane else s
  match d.opened with
  | none => told
  | some target => told.takeOpen d.record.lane target

/-- CAPTURE_CLOSE_TEST (R176): the oldest undelivered record reaches the Capture Unit, and after it what waited behind it. -/
def execCaptureCloseTest (s : State) : Host.Outcome State Fault Refusal :=
  .next (match s.mail.toCapture with
    | [] => s
    | d :: rest =>
      (State.closeTest { s with mail := { s.mail with toCapture := rest } } d.record).takeWaiting d)

/-- The Capture Unit is told that a lane has gone OUT (R76, R178). A record of the armed lane that is still on its way reaches the
unit first, so that the unit is ARMED, or HELD and kept, when it learns it: the model's choice (notes/assumptions/35.md). -/
def State.captureLaneOut (s : State) (ln : LaneId) : State :=
  if s.capture.writing ∧ s.capture.lane = some ln ∧ s.recordComing ln then s.waitBehind ln fun d => { d with laneOut := true }
  else s.takeLaneOut ln

/-- The trigger of a code and a class (R173); c is judged only with the CLASS trigger. -/
def triggerOf (code c : Nat) : Option Trigger :=
  match code with
  | 0 => some .next
  | 1 => some .flagged
  | 2 => if c ≤ 31 then some (.cls c) else none
  | 3 => some .enforce
  | _ => none

/-- The unit armed on this tick (R173, R174). -/
def CaptureUnit.arm (ln : LaneId) (d : Nat) (t : Trigger) (now : Tick) : CaptureUnit :=
  { CaptureUnit.start with state := .armed, lane := some ln, d := some d, trigger := some t, nextWrite := now }

/-- CAPTURE_ARM (R173): body lane, d, trigger, c. What came before the arm is not taken after it (R175, R178). -/
def execCaptureArm (tag : Byte) (body : List Byte) (s : State) : Host.Outcome State Fault Refusal :=
  .next (
    if body.length ≠ 4 then s.answer 0x28 tag body [codeBadLength]
    else if s.capture.state ≠ .idle then s.answer 0x28 tag body [codeBusy]
    else match fourOfNumber (field body 0 1), triggerOf (field body 2 1) (field body 3 1) with
      | some ln, some trig =>
        let d := field body 1 1
        if !within 1 16 d || (s.asm ln).service = .out then s.answer 0x28 tag body [codeBadValue]
        else { s.dropWaiting with capture := CaptureUnit.arm ln d trig s.tb.t }.answer 0x28 tag body [codeOk]
      | _, _ => s.answer 0x28 tag body [codeBadValue])

/-- A description as sent in a CAPTURE_FETCH reply, 15 bytes (R185). -/
def Description.bytes (d : Description) : List Byte :=
  optZero 6 d.serial ++ codeByte (d.lane.val + 1) ++ leBytes 4 ((d.startTick.map BitVec.toNat).getD 0) ++
  codeByte d.d ++ leBytes 2 d.count ++ flagByte d.truncated

/-- A sample set as sent, without its tick (R185). -/
def SampleSet.bytes (x : SampleSet) : List Byte := x.ys.toList.flatMap (leSigned 2)

/-- The reply to CAPTURE_FETCH of an offset and a count (R177). -/
def CaptureUnit.fetch (c : CaptureUnit) (offset count : Nat) : List Byte :=
  match c.state, c.description with
  | .held, some d =>
    if !within 1 120 count || d.count ≤ offset then [codeBadValue]
    else
      let sets := (c.sets.drop offset).take count
      codeOk :: (d.bytes ++ leBytes 2 offset ++ codeByte sets.length ++ sets.flatMap SampleSet.bytes)
  | _, _ => [codeNotFound]

/-- CAPTURE_FETCH (R177): body offset (2), count. -/
def execCaptureFetch (tag : Byte) (body : List Byte) (s : State) : Host.Outcome State Fault Refusal :=
  .next (s.answer 0x29 tag body
    (if body.length ≠ 3 then [codeBadLength] else s.capture.fetch (field body 0 2) (field body 2 1)))

/-- CAPTURE_RELEASE (R177): the unit enters IDLE from every state. -/
def execCaptureRelease (tag : Byte) (body : List Byte) (s : State) : Host.Outcome State Fault Refusal :=
  .next (
    if body.length ≠ 0 then s.answer 0x2A tag body [codeBadLength]
    else { s with capture := CaptureUnit.start }.answer 0x2A tag body [codeOk])

end Sys2Proof.Machine
end

