-- ==== Sys2Proof/Machine/Windows.lean ====
section
/-! DEFINITION. The match windows of the lanes (R44). -/

namespace Sys2Proof.Machine

/-- Δt_min and Δt_max of a LANE item at a tick rate (R44). -/
def windowsOf (lane : LaneItem) (nRef : Nat) : Windows :=
  { dtMin := ceilNat (lane.rowSpacing * nRef) (kmhToMm lane.vHi)
    dtMax := lane.rowSpacing * nRef / kmhToMm lane.vLo }

/-- A lane with its windows recomputed (R44). An OUT lane keeps its windows as last computed (R53, notes/assumptions/9.md). -/
def Lane.recompute (l : Lane) (nRef : Nat) : Lane :=
  match l.asm.service with
  | .out => l
  | .inService => { l with matcher := { l.matcher with windows := l.asm.working.map fun w => windowsOf w nRef } }

/-- N_ref takes a value, and a change of it recomputes every lane's windows (R7, R44). -/
def State.setNRef (s : State) (n : Nat) : State :=
  if n = s.tb.nRef then s
  else { s with tb := { s.tb with nRef := n }, lanes := s.lanes.map fun l => l.recompute n }

end Sys2Proof.Machine
end

