-- ==== Sys2Proof/Machine/Adoption.lean ====
section
/-! DEFINITION. Quiet lanes (R52), the adoption of a generation by a lane (R37, R75, R76) and the freeing of the retiring
generation (R154). -/

namespace Sys2Proof.Machine

/-- A lane is quiet (R52): IDLE, with an empty pending queue and empty half-crossing lists. A pulse report on its way to the
matcher is already the matcher's (R22, R23), so it keeps the lane from being quiet (notes/assumptions/6.md). -/
def State.quiet (s : State) (ln : LaneId) : Bool :=
  (s.asm ln).context.isNone && (s.matcher ln).queue.isEmpty && (s.matcher ln).list1.isEmpty &&
  (s.matcher ln).list2.isEmpty && s.mail.reports.all fun r => r.channel.lane ≠ ln

/-- A lane has adopted the generation of a number. -/
def Lane.holds (l : Lane) (n : Nat) : Bool := l.asm.adopted.any fun g => g.number = n

/-- Some lane has adopted the generation of a number. -/
def State.someLaneHolds (s : State) (n : Nat) : Bool :=
  (s.lanes.get 0).holds n || (s.lanes.get 1).holds n || (s.lanes.get 2).holds n || (s.lanes.get 3).holds n

/-- The retiring generation is freed when no lane holds it any longer (R154). -/
def State.freeRetiring (s : State) : State :=
  match s.tables.retiring with
  | none => s
  | some g => if s.someLaneHolds g.number then s else { s with tables := { s.tables with retiring := none } }

/-- The assembler's part of an adoption: generation, working settings, service state and held speed (R75, R76, R82). -/
def Assembler.adopt (a : Assembler) (g : Generation) (w : LaneItem) : Assembler :=
  { a with
    adopted := some g
    working := some w
    service := if w.enabled then .inService else .out
    heldSpeed := if a.service = .out ∧ w.enabled then kmhToMm w.fallback else a.heldSpeed }

/-- A lane adopts the active generation, as one event of five steps (R75); with no active generation nothing is adopted. -/
def State.adopt (s : State) (ln : LaneId) : State :=
  match s.tables.active with
  | none => s
  | some g =>
    let l := s.lanes.get ln
    let w := g.set.lanes.get ln
    let taken := s.setLane ln { l with
      asm := l.asm.adopt g w
      matcher := { l.matcher with windows := some (windowsOf w s.tb.nRef) } }
    let told := if l.asm.service = .inService ∧ w.enabled = false then taken.captureLaneOut ln else taken
    told.freeRetiring.raiseReported l.reported ln

/-- The lane's adopted generation is not the active one. -/
def State.stale (s : State) (ln : LaneId) : Bool := s.tables.active.any fun g => !(s.lanes.get ln).holds g.number

/-- A quiet lane adopts a newer active generation (R75). -/
def State.adoptIfQuiet (s : State) (ln : LaneId) : State := if s.quiet ln && s.stale ln then s.adopt ln else s

/-- The lanes that an event or a commit leaves quiet adopt, each at that event (R75). -/
def State.settle (s : State) : State := fours.foldl State.adoptIfQuiet s

/-- The adoption at the close within a split: the lane is quiet at that moment and adopts (R91), unless the new generation
disables it while the splitting axle is still in hand (notes/assumptions/7.md). -/
def State.adoptAtSplit (s : State) (ln : LaneId) : State :=
  if s.tables.active.any (fun g => (g.set.lanes.get ln).enabled) then s.adoptIfQuiet ln else s

end Sys2Proof.Machine
end

