-- ==== Sys2Proof/Machine/Weighing.lean ====
section
/-! DEFINITION. Wheel and axle loads (chapter 6): from the pulse areas of a closing vehicle to its wheel, row, axle and gross
loads, with the values the vehicle latched at its open and N_ref at the close (R95). -/

namespace Sys2Proof.Machine

/-! ## Marks of crossings and axles (R43, R48) -/

/-- A crossing with one wheel pulse. -/
def Crossing.single (c : Crossing) : Bool := c.left.isNone || c.right.isNone

/-- The crossings present in an axle. -/
def Axle.crossings (a : Axle) : List Crossing := a.row1.toList ++ a.row2.toList

/-- The pulses of a crossing, left first. -/
def Crossing.pulses (c : Crossing) : List PulseReport := c.left.toList ++ c.right.toList

/-- The row mark (R48). -/
def Axle.rowMark (a : Axle) : RowMark :=
  match a.row1, a.row2 with
  | some _, some _ => .both
  | some _, none => .row1
  | none, _ => .row2

/-- The straddle mark (R48). -/
def Axle.straddle (a : Axle) : Bool := a.crossings.any Crossing.straddle

/-- The single-wheel mark (R48). -/
def Axle.singleMark (a : Axle) : SingleMark :=
  if a.crossings.any (fun c => c.single && c.missingSide) then .sideOut
  else if a.crossings.any Crossing.single then .wheelMissed
  else .clear

/-- The channels that supplied a pulse to an axle's crossings (R28). -/
def Axle.channels (a : Axle) : List ChannelId := a.crossings.flatMap fun c => c.pulses.map PulseReport.channel

/-! ## Factors (R99 to R101) -/

/-- The factor at x in the points from (a, ka) on, x being at or above a. -/
def interpolateFrom (a : Int) (ka : Nat) : List (Int × Nat) → Int → Nat
  | [], _ => ka
  | (b, kb) :: rest, x =>
    if x < b then ((ka : Int) + roundInt (((kb : Int) - ka) * (x - a)) (b - a).toNat).toNat
    else interpolateFrom b kb rest x

/-- Interpolation in a table of points (R99). A table of fewer than two points gives a free value. -/
def interpolate (points : List (Int × Nat)) (x : Int) : Nat :=
  match points with
  | (a, ka) :: p :: rest => if x ≤ a then ka else interpolateFrom a ka (p :: rest) x
  | short => Config.factorOfShortTable short x

/-- The temperatures of TEMPTAB's nine points, 0.1 °C (R101). -/
def tempPoints : List Int := [-200, -100, 0, 100, 200, 300, 400, 500, 600]

/-- The speed factor Kv at a speed in mm/s (R100). -/
def speedFactor (points : List (Nat × Nat)) (v : Nat) : Nat :=
  interpolate (points.map fun p => ((p.1 : Int), p.2)) v

/-- The temperature factor Kt at a temperature (R101). -/
def tempFactor (factors : List Nat) (tw : Int) : Nat := interpolate (tempPoints.zip factors) tw

/-! ## One wheel (R97, R98, R103 to R105) -/

/-- A value with whether it met its limit. -/
def clampMark (cap n : Nat) : Nat × Bool := (min cap n, cap < n)

/-- A wheel's load with its offscale mark. -/
structure Wheel where
  load : Nat
  offscale : Bool
deriving DecidableEq, Repr

/-- Stages 1 to 8 for one pulse: area A, speed v_a, N_ref, S_ch and the three factors. -/
def weighWheel (p : PulseReport) (va nRef sch kv kt kd : Nat) : Wheel :=
  let (r, o2) := clampMark Config.wordCap (roundNat (p.area * va) nRef)
  let (w0, o3) := clampMark Config.loadCap (roundNat (r * sch) Config.sensitivityScale)
  let (w1, o4) := clampMark Config.loadCap (scaleBy w0 kv)
  let (w2, o5) := clampMark Config.loadCap (scaleBy w1 kt)
  let (w, o6) := clampMark Config.loadCap (scaleBy w2 kd)
  let (load, o8) := clampMark Config.wheelCap w
  { load := load, offscale := p.clipped || p.area = Config.areaCap || o2 || o3 || o4 || o5 || o6 || o8 }

/-! ## One crossing and one axle (R96, R106 to R108) -/

/-- The wheels of a crossing. -/
structure WheelPair where
  left : Option Wheel
  right : Option Wheel
deriving DecidableEq, Repr

/-- The load of a wheel, 0 when it is absent (R106). -/
def wheelOr0 (w : Option Wheel) : Nat :=
  match w with
  | some w => w.load
  | none => 0

/-- The row load (R106). -/
def WheelPair.rowLoad (w : WheelPair) : Nat := wheelOr0 w.left + wheelOr0 w.right

/-- Some wheel of the pair is offscale. -/
def WheelPair.offscale (w : WheelPair) : Bool := w.left.any Wheel.offscale || w.right.any Wheel.offscale

/-- A weighed axle: its wheels by row and what is formed from them. -/
structure WeighedAxle where
  row1 : Option WheelPair
  row2 : Option WheelPair
deriving DecidableEq, Repr

/-- The axle load (R107). -/
def WeighedAxle.load (a : WeighedAxle) : Nat :=
  match a.row1, a.row2 with
  | some r1, some r2 => roundNat (r1.rowLoad + r2.rowLoad) 2
  | some r1, none => r1.rowLoad
  | none, some r2 => r2.rowLoad
  | none, none => 0

/-- The reported wheel of one side, from the wheels of that side in the two rows (R108). -/
def reportedWheel (w1 w2 : Option Wheel) : Nat :=
  match w1, w2 with
  | some a, some b => roundNat (a.load + b.load) 2
  | some a, none => a.load
  | none, some b => b.load
  | none, none => 0

/-- The reported left wheel (R108). -/
def WeighedAxle.left (a : WeighedAxle) : Nat := reportedWheel (a.row1.bind (·.left)) (a.row2.bind (·.left))

/-- The reported right wheel (R108). -/
def WeighedAxle.right (a : WeighedAxle) : Nat := reportedWheel (a.row1.bind (·.right)) (a.row2.bind (·.right))

/-- Some wheel of the axle is offscale (R105). -/
def WeighedAxle.offscale (a : WeighedAxle) : Bool := a.row1.any WheelPair.offscale || a.row2.any WheelPair.offscale

/-- S_ch of a channel in a set (R98): every set carries all sixteen CHANNEL items. -/
def TableSet.sensitivity (t : TableSet) (ch : ChannelId) : Nat := ((t.channels.get ch.lane).get ch.strip).sensitivity

/-- The wheels of one crossing, its pulses weighed at v_a with the given factors (R96). -/
def weighCrossing (set : TableSet) (va nRef kv kt kd : Nat) (c : Crossing) : WheelPair :=
  let wheel := fun p : PulseReport => weighWheel p va nRef (set.sensitivity p.channel) kv kt kd
  { left := c.left.map wheel, right := c.right.map wheel }

/-- One axle of a context weighed (R95 to R105). Kv is taken at the vehicle speed, or at the axle's v_a when the vehicle has
none (R100). -/
def weighAxle (ctx : Context) (lane : LaneId) (speed : Option Nat) (nRef : Nat) (x : ContextAxle) : WeighedAxle :=
  let set := ctx.generation.set
  let kv := speedFactor (ctx.generation.speedMm.get lane) (speed.getD x.eff)
  let kt := tempFactor set.tempTab ctx.tw
  { row1 := x.axle.row1.map (weighCrossing set x.eff nRef kv kt ctx.kd)
    row2 := x.axle.row2.map (weighCrossing set x.eff nRef kv kt ctx.kd) }

/-! ## The vehicle (R90 step 1, R109) -/

/-- The vehicle speed: the rounded mean of the own speeds of the axles that have one (R90). -/
def Context.speed (ctx : Context) : Option Nat :=
  let own := ctx.axles.filterMap fun x => x.axle.ownSpeed
  if own.isEmpty then none else some (roundNat own.sum own.length)

/-- The gross vehicle weight: the sum of the axle loads (R109). -/
def gross (axles : List WeighedAxle) : Nat := (axles.map WeighedAxle.load).sum

/-- The overall wheelbase: the sum of the spacings stored on the axles (R109). -/
def Context.wheelbase (ctx : Context) : Nat := (ctx.axles.filterMap ContextAxle.spacing).sum

end Sys2Proof.Machine
end

