-- ==== Sys2Proof/Machine/Flags.lean ====
section
/-! DEFINITION. The judgements of a closing vehicle (chapter 7): class and matched rule (R115 to R117), quality (R118 to R124)
and enforcement flags (R127 to R129). -/

namespace Sys2Proof.Machine

/-! ## Class (R115 to R117) -/

/-- A spacing in cm, halves away from zero (R115). -/
def toCm (mm : Nat) : Nat := roundNat mm 10

/-- Within inclusive bounds. -/
def Bounds.holds (b : Bounds) (n : Nat) : Bool := b.min ≤ n && n ≤ b.max

/-- Every entry of a spacing list bounds the spacing at its place (R116). -/
def spacingsFit : List Bounds → List Nat → Bool
  | [], _ => true
  | _ :: _, [] => false
  | b :: bs, c :: cs => b.holds c && spacingsFit bs cs

/-- A class rule fits: every constraint it holds is met (R116). -/
def ClassRule.fits (r : ClassRule) (count : Nat) (cm : List Nat) (gvw firstLoad : Nat) : Bool :=
  r.axles.holds count && spacingsFit r.spacings cm && r.gvw.all (fun b => b.holds gvw) &&
  r.minFirstAxle.all (fun m => m ≤ firstLoad)

/-- The first rule that fits, in index order (R117). -/
def matchedRule (rules : List (Option ClassRule)) (count : Nat) (cm : List Nat) (gvw firstLoad : Nat) :
    Option ClassRule :=
  (rules.filterMap id).find? fun r => r.fits count cm gvw firstLoad

/-- The class: the matched rule's code, or 0 (R117). -/
def classOf (rule : Option ClassRule) : Nat :=
  match rule with
  | some r => r.code
  | none => 0

/-! ## Quality (R118 to R124) -/

/-- Check 4 passes: the vehicle speed is present and within the lane's valid range (R120). -/
def speedInRange (lane : LaneItem) (speed : Option Nat) : Bool :=
  speed.any fun v => kmhToMm lane.validLow ≤ v && v ≤ kmhToMm lane.validHigh

/-- Check 5 fails: first and last own speeds differ by more than the tolerance (R121). -/
def accelerates (lane : LaneItem) (own : List Nat) (speed : Nat) : Bool :=
  match own with
  | [] => false
  | first :: rest => lane.accelTol * speed < distNat (rest.getLast?.getD first) first * 1000

/-- An axle's two row loads differ by more than the row tolerance (R123). -/
def rowsDisagree (lane : LaneItem) (a : WeighedAxle) : Bool :=
  match a.row1, a.row2 with
  | some r1, some r2 => 0 < a.load && lane.rowTol * a.load < distNat r1.rowLoad r2.rowLoad * 100
  | _, _ => false

/-- The quality code: the first of checks 1 to 9 that fails (R118). -/
def qualityOf (lane : LaneItem) (ctx : Context) (speed : Option Nat) (weighed : List WeighedAxle) : Quality :=
  let axles := ctx.axles.map ContextAxle.axle
  if axles.length = 1 then .fragment
  else if axles.any (fun a => a.singleMark ≠ .clear) then .incomplete
  else if axles.any Axle.straddle then .straddle
  else if !speedInRange lane speed then .speedRange
  else if accelerates lane (axles.filterMap Axle.ownSpeed) (speed.getD 0) then .acceleration
  else if axles.any (fun a => a.rowMark ≠ .both) then .singleRow
  else if weighed.any (rowsDisagree lane) then .rowDisagree
  else if weighed.any WeighedAxle.offscale then .offscale
  else if ctx.split then .split
  else .good

/-! ## Enforcement flags (R127 to R129) -/

/-- A limit of the matched rule, or the site's default (R127, R128). -/
def limitOf (rule : Option ClassRule) (own : ClassRule → Option Nat) (site : Nat) : Nat := (rule.bind own).getD site

/-- The three flags, each on its own. -/
def enforcementOf (set : TableSet) (lane : LaneId) (rule : Option ClassRule) (cls gvw : Nat) (loads : List Nat) :
    Enforcement :=
  { axleOver := loads.any fun l => limitOf rule ClassRule.axleLimit set.site.axleLimit < l
    gvwOver := limitOf rule ClassRule.gvwLimit set.site.gvwLimit < gvw
    laneBanned := !(set.lanes.get lane).permit.getLsbD cls }

end Sys2Proof.Machine
end

