-- ==== Sys2Proof/Machine/Assembly.lean ====
section
/-! DEFINITION. The Vehicle Assembler (chapter 5): opening (R79), effective speed (R81), spacing and splits (R83 to R86),
closing (R87 to R91) and presence (R77, R78). -/

namespace Sys2Proof.Machine

/-! ## The record of a close (R11, R90, R110, R130) -/

/-- The stamp of a tick (R11): site seconds and subtick, with S, mark and N_ref as they stand. -/
def Timebase.stamp (tb : Timebase) (t : Tick) : Seconds × Nat :=
  if ticksSince t tb.mark < 2 ^ 31 then (tb.seconds, ticksSince t tb.mark)
  else
    let b := ticksSince tb.mark t
    let k := ceilNat b tb.nRef
    (tb.seconds - BitVec.ofNat 32 k, k * tb.nRef - b)

/-- An axle entry of the record (R110, R162). -/
def axleEntry (x : ContextAxle) (w : WeighedAxle) : AxleEntry :=
  { load := w.load, left := w.left, right := w.right, spacing := x.spacing, speed := x.axle.ownSpeed.map mmToTenthKmh,
    row := x.axle.rowMark, straddle := x.axle.straddle, single := x.axle.singleMark }

/-- The record that a close completes, in the steps of R90: speed, loads, class, quality, flags, conditions, serial, stamp. -/
def completeRecord (tb : Timebase) (serial : Option Nat) (ln : LaneId) (ctx : Context) (tailgate timeout : Bool) :
    VehicleRecord :=
  let speed := ctx.speed
  let weighed := ctx.axles.map (weighAxle ctx ln speed tb.nRef)
  let loads := weighed.map WeighedAxle.load
  let gvw := gross weighed
  let set := ctx.generation.set
  let cm := (ctx.axles.filterMap ContextAxle.spacing).map toCm
  let rule := matchedRule set.classes ctx.axles.length cm gvw (loads.headD 0)
  let cls := classOf rule
  let stamp := tb.stamp ((ctx.axles.head?.map fun x => x.axle.time).getD 0)
  { serial := serial
    lane := ln
    seconds := stamp.1
    subtick := stamp.2
    speed := speed.map mmToTenthKmh
    cls := cls
    quality := qualityOf (set.lanes.get ln) ctx speed weighed
    split := ctx.split
    conditions :=
      { tempHeld := ctx.held, timebaseFree := tb.lock ≠ .locked, tailgate := tailgate, timeout := timeout, captured := false }
    flags := enforcementOf set ln rule cls gvw loads
    tw := ctx.tw
    generation := ctx.generation.number
    kd := ctx.kd
    gvw := gvw
    wheelbase := ctx.wheelbase
    axles := List.zipWith axleEntry ctx.axles weighed }

/-- What the lane's channel units receive of a close (R28). -/
def supervisionOf (ln : LaneId) (ctx : Context) (q : Quality) : Supervision :=
  { lane := ln, quality := q, contributed := ctx.axles.map fun x => x.axle.channels }

/-- The serial counter after an assignment (R160). -/
def nextSerial : Option Nat → Option Nat
  | none => none
  | some n => if Config.serialMax ≤ n then none else some (n + 1)

/-- A completed record set on its way to the five consumers (R91). -/
def Mail.deliver (m : Mail) (r : VehicleRecord) (v : Supervision) : Mail :=
  { m with
    toStore := m.toStore ++ [r], toTally := m.toTally ++ [r], toDrift := m.toDrift ++ [r],
    toCapture := m.toCapture ++ [{ record := r, opened := none, laneOut := false }], toUnits := m.toUnits ++ [v] }

/-- The held speed after a close (R82). -/
def heldAfter (held : Nat) (speed : Option Nat) : Nat :=
  match speed with
  | none => held
  | some v => clampNat Config.heldSpeedMin Config.heldSpeedMax v

/-- A close (R90, R91): the record is completed and delivered, the context discarded, and the assembler IDLE. -/
def State.close (s : State) (ln : LaneId) (ctx : Context) (tailgate timeout : Bool) : State :=
  let r := completeRecord s.tb s.store.serial ln ctx tailgate timeout
  let a := s.asm ln
  let idle := s.setAsm ln { a with context := none, heldSpeed := heldAfter a.heldSpeed ctx.speed }
  { idle with
    store := { idle.store with serial := nextSerial idle.store.serial }
    mail := idle.mail.deliver r (supervisionOf ln ctx r.quality) }

/-! ## Speeds (R81) -/

/-- The own speed of the most recent axle of a context that has one. -/
def Context.lastOwn (ctx : Context) : Option Nat := (ctx.axles.filterMap fun x => x.axle.ownSpeed).getLast?

/-- The speed an axle with no own speed borrows: from the open vehicle, or the lane's held speed (R50, R81). -/
def Assembler.borrowed (a : Assembler) : Nat := (a.context.bind Context.lastOwn).getD a.heldSpeed

/-! ## Taking an axle (R79, R83 to R86) -/

/-- The band of a temperature (R70). -/
def bandOf (tw : Int) : Band :=
  if tw < -100 then 0 else if tw < 0 then 1 else if tw < 100 then 2 else if tw < 200 then 3
  else if tw < 300 then 4 else if tw < 400 then 5 else if tw < 500 then 6 else 7

/-- An axle opens a vehicle (R79): the context latches the adopted generation, T_w, the held mark, the band and Kd, and the
open is offered to the Capture Unit. Nothing opens in a lane with no adopted generation. -/
def State.openVehicle (s : State) (ln : LaneId) (axle : Axle) (split : Bool) : State :=
  let a := s.asm ln
  match a.adopted with
  | none => s
  | some g =>
    let band := bandOf s.temp.tw
    let ctx : Context :=
      { generation := g, tw := s.temp.tw, held := s.temp.held, band := band,
        kd := (((s.drift.lanes.get ln).bands).get band).kd, openTick := s.tb.t, lastTick := s.tb.t, fell := false,
        split := split, axles := [{ axle := axle, eff := axle.ownSpeed.getD a.heldSpeed, spacing := none }] }
    (s.setAsm ln { a with context := some ctx }).captureOpen ln axle.time

/-- The spacing of a new axle from the last of the list (R83). -/
def spacingOf (nRef : Nat) (prev : ContextAxle) (time : Tick) (eff : Nat) : Nat :=
  roundNat (roundNat (eff + prev.eff) 2 * ticksSince time prev.axle.time) nRef

/-- The spacing of a new axle from the last axle of a context (R83). -/
def Context.spacingTo (ctx : Context) (nRef : Nat) (time : Tick) (eff : Nat) : Nat :=
  match ctx.axles.getLast? with
  | none => 0
  | some prev => spacingOf nRef prev time eff

/-- An axle joined to the list with its spacing stored on the axle before it (R86). -/
def joinAxle (spacing : Nat) (x : ContextAxle) : List ContextAxle → List ContextAxle
  | [] => [x]
  | [p] => [{ p with spacing := some spacing }, x]
  | p :: q :: rest => p :: joinAxle spacing x (q :: rest)

/-- An axle reaches an OPEN assembler (R83 to R86): a spacing split, a 13-axle split, or an append. -/
def State.nextAxle (s : State) (ln : LaneId) (w : LaneItem) (ctx : Context) (axle : Axle) : State :=
  let a := s.asm ln
  let eff := axle.ownSpeed.getD a.borrowed
  let spacing := ctx.spacingTo s.tb.nRef axle.time eff
  if w.sMax < spacing then
    ((s.close ln ctx (w.loop && !ctx.fell) false).adoptAtSplit ln).openVehicle ln axle false
  else if Config.axleCapacity ≤ ctx.axles.length then
    ((s.close ln { ctx with split := true } false false).adoptAtSplit ln).openVehicle ln axle true
  else
    s.setAsm ln { a with context := some { ctx with
      lastTick := s.tb.t
      axles := joinAxle spacing { axle := axle, eff := eff, spacing := none } ctx.axles } }

/-- An axle reaches the lane's assembler (R79, R83). -/
def State.takeAxle (s : State) (ln : LaneId) (axle : Axle) : State :=
  match (s.asm ln).context, (s.asm ln).working with
  | none, _ => s.openVehicle ln axle false
  | some ctx, some w => s.nextAxle ln w ctx axle
  | some _, none => s

/-! ## Closing by silence or time (R87 to R89) -/

/-- The lane's open context when its gap has run out with the loop as given: an empty queue and G ticks since the last axle;
with a loop, presence OFF too (R87, R88). -/
def State.gapDue (s : State) (ln : LaneId) (loop : Bool) : Option Context :=
  match (s.asm ln).context, (s.asm ln).working with
  | some ctx, some w =>
    let gap := if loop then w.gapLoop else w.gapNoLoop
    if w.loop = loop ∧ (loop = true → (s.asm ln).presence = false) ∧ (s.matcher ln).queue = [] ∧
        gap ≤ ticksSince s.tb.t ctx.lastTick then some ctx
    else none
  | _, _ => none

/-- The lane's open context when it has been open too long (R89). -/
def State.timeoutDue (s : State) (ln : LaneId) : Option Context :=
  match (s.asm ln).context, (s.asm ln).working with
  | some ctx, some w => if w.openLimit * s.tb.nRef ≤ ticksSince s.tb.t ctx.openTick then some ctx else none
  | _, _ => none

/-- GAP_WITH_LOOP (R87). -/
def execGapWithLoop (ln : LaneId) (s : State) : Host.Outcome State Fault Refusal :=
  .next (match s.gapDue ln true with
    | none => s
    | some ctx => (s.close ln ctx false false).settle)

/-- GAP_WITHOUT_LOOP (R88). -/
def execGapWithoutLoop (ln : LaneId) (s : State) : Host.Outcome State Fault Refusal :=
  .next (match s.gapDue ln false with
    | none => s
    | some ctx => (s.close ln ctx false false).settle)

/-- TIMEOUT (R89): the vehicle is closed marked TIMEOUT. -/
def execTimeout (ln : LaneId) (s : State) : Host.Outcome State Fault Refusal :=
  .next (match s.timeoutDue ln with
    | none => s
    | some ctx => (s.close ln ctx false true).settle)

/-! ## Presence (R77, R78) -/

/-- The presence-fell flag of an open vehicle set, on a lane with loop fitted (R78). -/
def Assembler.presenceFell (a : Assembler) : Assembler :=
  if a.working.any LaneItem.loop then { a with context := a.context.map fun c => { c with fell := true } } else a

/-- One sample of the loop input in the debounce (R77, R78). -/
def Assembler.samplePresence (a : Assembler) (level : Bool) : Assembler :=
  if level = a.presence then { a with presenceRun := 0 }
  else if Config.debounce ≤ a.presenceRun + 1 then
    let changed := { a with presence := level, presenceRun := 0 }
    if a.presence then changed.presenceFell else changed
  else { a with presenceRun := a.presenceRun + 1 }

/-- PRESENCE_SAMPLE (R77). -/
def execPresenceSample (ln : LaneId) (level : Bool) (s : State) : Host.Outcome State Fault Refusal :=
  .next (s.setAsm ln ((s.asm ln).samplePresence level))

end Sys2Proof.Machine
end

