-- ==== Sys2Proof/Machine/Tallies.lean ====
section
/-! DEFINITION. The Tally Unit (10.5 to 10.8): counting records, spikes, drops and changes of T_w in the active tallies
(R166 to R168), closing an interval at a second boundary (R169), and the requests TALLY_FETCH and TALLY_RELEASE (R171). -/

namespace Sys2Proof.Machine

/-- A 16-bit count goes up by one, saturating (R166). -/
def countUp (n : Nat) : Nat := bump Config.countCap n

/-- A bin of a list of counts goes up by one. -/
def countBin (l : List Nat) (i : Nat) : List Nat := l.modify i countUp

/-- A count goes up by one when the condition holds. -/
def countIf (c : Bool) (n : Nat) : Nat := if c then countUp n else n

/-- The bin of a value in steps of a width; bin 15 takes the rest (R166). -/
def binOf (width n : Nat) : Nat := min 15 (n / width)

/-- One record counted in its lane's tally (R167). -/
def Tally.record (t : Tally) (r : VehicleRecord) : Tally :=
  let good := r.quality = .good
  { t with
    classes := countBin t.classes r.cls
    qualities := countBin t.qualities r.quality.code
    speeds := match r.speed with
      | some v => countBin t.speeds (binOf 100 v)
      | none => t.speeds
    gvws := if good then countBin t.gvws (binOf 5000 r.gvw) else t.gvws
    axleLoads :=
      if good then r.axles.foldl (fun l a => countBin l (binOf 1000 a.load)) t.axleLoads else t.axleLoads
    axleOver := countIf (good && r.flags.axleOver) t.axleOver
    gvwOver := countIf (good && r.flags.gvwOver) t.gvwOver
    laneBanned := countIf r.flags.laneBanned t.laneBanned
    singleRow := min Config.countCap (t.singleRow + r.axles.countP fun a => a.row ≠ .both) }

/-- A change of T_w in one tally (R168). -/
def Tally.seeTw (t : Tally) (tw : Int) : Tally :=
  { t with twMin := min t.twMin tw, twMax := max t.twMax tw, twLast := tw }

/-- The state with one lane's active tally replaced. -/
def State.setTally (s : State) (ln : LaneId) (t : Tally) : State :=
  { s with tally := { s.tally with active := s.tally.active.set ln t } }

/-- A spike of a lane's channel is counted (R26, R168). -/
def State.countSpike (s : State) (ln : LaneId) : State :=
  let t := s.tally.active.get ln
  s.setTally ln { t with spikes := countUp t.spikes }

/-- The four active tallies cleared and reopened at the present S and T_w (R169, R172). -/
def State.reopenTallies (s : State) : State :=
  { s with tally := { s.tally with
      active := Four.fill (Tally.opened s.temp.tw), openedAt := s.tb.seconds, extension := 0 } }

/-- The entry an interval closes with (R169). -/
def State.tallyEntry (s : State) : TallyEntry :=
  { start := s.tally.openedAt, finish := s.tb.seconds, extension := s.tally.extension,
    probes := s.temp.probes.map Probe.smoothed, lanes := s.tally.active }

/-- The Tally Unit examines S at a second boundary (R169). -/
def State.examineInterval (s : State) : State :=
  if s.tb.seconds.toNat % (s.tally.interval * 60) = 0 then
    if s.tally.queue.length < Config.tallyCapacity then
      let joined := { s with tally := { s.tally with queue := s.tally.queue ++ [s.tallyEntry] } }
      joined.reopenTallies.raise (.tallyClosed joined.tally.queue.length)
    else { s with tally := { s.tally with extension := countUp s.tally.extension } }
  else s

/-- TALLY_RECORD (R167): the oldest undelivered record is counted in its lane's active tally. -/
def execTallyRecord (s : State) : Host.Outcome State Fault Refusal :=
  .next (match s.mail.toTally with
    | [] => s
    | r :: rest =>
      { s with mail := { s.mail with toTally := rest } }.setTally r.lane ((s.tally.active.get r.lane).record r))

/-- TALLY_DROP (R168): the oldest unreported drop is counted for its record's lane. -/
def execTallyDrop (s : State) : Host.Outcome State Fault Refusal :=
  .next (match s.mail.drops with
    | [] => s
    | ln :: rest =>
      let t := s.tally.active.get ln
      { s with mail := { s.mail with drops := rest } }.setTally ln { t with dropped := countUp t.dropped })

/-- TALLY_FETCH (R171): the oldest entry whole, or NOT_FOUND. -/
def execTallyFetch (tag : Byte) (body : List Byte) (s : State) : Host.Outcome State Fault Refusal :=
  .next (s.answer 0x22 tag body
    (if body.length ≠ 0 then [codeBadLength]
    else match s.tally.queue with
      | [] => [codeNotFound]
      | e :: _ => codeOk :: e.bytes))

/-- TALLY_RELEASE (R171): the oldest entry leaves the queue, or NOT_FOUND. -/
def execTallyRelease (tag : Byte) (body : List Byte) (s : State) : Host.Outcome State Fault Refusal :=
  .next (
    if body.length ≠ 0 then s.answer 0x23 tag body [codeBadLength]
    else match s.tally.queue with
      | [] => s.answer 0x23 tag body [codeNotFound]
      | _ :: rest =>
        { s with tally := { s.tally with queue := rest } }.answer 0x23 tag body (codeOk :: codeByte rest.length))

end Sys2Proof.Machine
end

