-- ==== Sys2Proof/Machine/Drift.lean ====
section
/-! DEFINITION. The Drift Tracker (chapter 8): feeding the batches (R134, R135), the update (R136, R137), the policy of a
commit (R141, R142), and the requests DRIFT_FREEZE, DRIFT_GET and DRIFT_SET (R138 to R140). -/

namespace Sys2Proof.Machine

/-! ## Access -/

/-- A lane and band of the tracker. -/
def State.driftBand (s : State) (ln : LaneId) (b : Band) : DriftBand := (s.drift.lanes.get ln).bands.get b

/-- The state with one lane and band of the tracker replaced. -/
def State.setDriftBand (s : State) (ln : LaneId) (b : Band) (x : DriftBand) : State :=
  let l := s.drift.lanes.get ln
  { s with drift := { s.drift with lanes := s.drift.lanes.set ln { l with bands := l.bands.set b x } } }

/-- A batch emptied: Σ and n at 0, the factor and the rejected count kept. -/
def DriftBand.empty (b : DriftBand) : DriftBand := { b with sum := 0, n := 0 }

/-! ## The update (R136) -/

/-- The error e of a batch mean against the target, in factor units (R136 step 2). -/
def driftError (target mean : Nat) : Int := roundInt (16384 * ((target : Int) - mean)) mean

/-- The step of an update: the gain's share of the error, within the limit of the maximum step (R136 steps 3 and 4). -/
def driftStep (policy : DriftItem) (e : Int) : Int :=
  let limit : Int := roundNat (policy.maxStep * 16384) 1000
  clampInt (-limit) limit (roundInt (e * policy.gain) 256)

/-- Kd after a step (R136 step 5). -/
def stepKd (kd : Nat) (step : Int) : Nat :=
  clampNat Config.kdMin Config.kdMax (roundInt ((kd : Int) * (16384 + step)) 16384).toNat

/-- A full batch is updated: the factor steps and the batch is emptied (R136). -/
def DriftBand.update (b : DriftBand) (policy : DriftItem) : DriftBand :=
  let mean := roundNat b.sum policy.batch
  { b.empty with kd := stepKd b.kd (driftStep policy (driftError policy.target mean)) }

/-! ## Feeding (R134, R135) -/

/-- A first-axle load lies outside the acceptance window (R135). -/
def outsideWindow (policy : DriftItem) (a1 : Nat) : Bool :=
  policy.window * policy.target < distNat a1 policy.target * 100

/-- The record is a feed: tracking is on, the class is the reference class, the quality GOOD, TEMP_HELD clear and the lane
not frozen (R134). -/
def State.isFeed (s : State) (r : VehicleRecord) : Bool :=
  s.drift.policy.refClass ≠ 0 && r.cls = s.drift.policy.refClass && r.quality = .good && !r.conditions.tempHeld &&
  !(s.drift.lanes.get r.lane).frozen

/-- The set of one lane and band in a DRIFT_UPDATED notice (R137). -/
def oneBand (ln : LaneId) (b : Band) : Four (BitVec 8) := (Four.fill 0).set ln (BitVec.twoPow 8 b.val)

/-- A sample accepted into a batch (R135). -/
def DriftBand.accept (b : DriftBand) (a1 : Nat) : DriftBand := { b with sum := b.sum + a1, n := b.n + 1 }

/-- A feed is judged in its lane and band (R135): rejected and counted, accepted, or accepted with the update of its full
batch (R136) and DRIFT_UPDATED (R137). -/
def State.feed (s : State) (ln : LaneId) (b : Band) (a1 : Nat) : State :=
  let x := s.driftBand ln b
  let policy := s.drift.policy
  if outsideWindow policy a1 then s.setDriftBand ln b { x with rejected := countUp x.rejected }
  else
    let x' := x.accept a1
    if policy.batch ≤ x'.n then (s.setDriftBand ln b (x'.update policy)).raise (.driftUpdated (oneBand ln b))
    else s.setDriftBand ln b x'

/-- The sample of a record: its first axle load (R134). -/
def VehicleRecord.firstLoad (r : VehicleRecord) : Nat := (r.axles.head?.map AxleEntry.load).getD 0

/-- DRIFT_FEED (R134): the oldest undelivered record reaches the tracker. -/
def execDriftFeed (s : State) : Host.Outcome State Fault Refusal :=
  .next (match s.mail.toDrift with
    | [] => s
    | r :: rest =>
      let s' := { s with mail := { s.mail with toDrift := rest } }
      if s.isFeed r then s'.feed r.lane (bandOf r.tw) r.firstLoad else s')

/-! ## The policy of a commit (R141, R142) -/

/-- Two policies differ so that the batches must be emptied (R141). -/
def DriftItem.rebatches (old new : DriftItem) : Bool :=
  old.refClass ≠ new.refClass || old.target ≠ new.target || old.window ≠ new.window || old.batch ≠ new.batch

/-- One function applied to every lane and band of the tracker. -/
def DriftTracker.mapBands (d : DriftTracker) (f : DriftBand → DriftBand) : DriftTracker :=
  { d with lanes := d.lanes.map fun l => { l with bands := l.bands.map f } }

/-- The tracker takes the policy of a commit and its drift-reset flag (R141, R142). -/
def DriftTracker.take (d : DriftTracker) (o : DriftOffer) : DriftTracker :=
  let fresh := { d with policy := o.policy }
  if o.reset then fresh.mapBands fun _ => DriftBand.start
  else if d.policy.rebatches o.policy then fresh.mapBands DriftBand.empty
  else fresh

/-- DRIFT_POLICY_TAKE (R141): the oldest offer of a commit is taken. -/
def execDriftPolicyTake (s : State) : Host.Outcome State Fault Refusal :=
  .next (match s.mail.driftOffers with
    | [] => s
    | o :: rest => { s with mail := { s.mail with driftOffers := rest }, drift := s.drift.take o })

/-! ## Requests (R138 to R140) -/

/-- A band of a number 0 to 7. -/
def bandOfNumber (n : Nat) : Option Band := if h : n < 8 then some ⟨n, h⟩ else none

/-- One lane's factors as sent in a DRIFT_GET reply, 40 bytes and the frozen flag (R139, R185). -/
def DriftLane.bytes (l : DriftLane) : List Byte :=
  l.bands.toList.flatMap (fun b => leBytes 2 b.kd ++ leBytes 1 b.n ++ leBytes 2 b.rejected) ++ flagByte l.frozen

/-- DRIFT_GET (R139): body lane. -/
def execDriftGet (tag : Byte) (body : List Byte) (s : State) : Host.Outcome State Fault Refusal :=
  .next (s.answer 0x18 tag body
    (if body.length ≠ 1 then [codeBadLength]
    else match fourOfNumber (leNat body) with
      | none => [codeBadValue]
      | some ln => codeOk :: (s.drift.lanes.get ln).bytes))

/-- DRIFT_SET (R140): body lane, band, Kd (2). The factor is set and the batch emptied. -/
def execDriftSet (tag : Byte) (body : List Byte) (s : State) : Host.Outcome State Fault Refusal :=
  .next (
    if body.length ≠ 4 then s.answer 0x19 tag body [codeBadLength]
    else match fourOfNumber (field body 0 1), bandOfNumber (field body 1 1) with
      | some ln, some b =>
        let kd := field body 2 2
        if within Config.kdMin Config.kdMax kd then
          (s.setDriftBand ln b { (s.driftBand ln b).empty with kd := kd }).answer 0x19 tag body [codeOk]
        else s.answer 0x19 tag body [codeBadValue]
      | _, _ => s.answer 0x19 tag body [codeBadValue])

/-- The state with one lane's frozen flag. -/
def State.setFrozen (s : State) (ln : LaneId) (on : Bool) : State :=
  { s with drift := { s.drift with lanes := s.drift.lanes.set ln { s.drift.lanes.get ln with frozen := on } } }

/-- DRIFT_FREEZE (R138): body lane, on or off. -/
def execDriftFreeze (tag : Byte) (body : List Byte) (s : State) : Host.Outcome State Fault Refusal :=
  .next (
    if body.length ≠ 2 then s.answer 0x1A tag body [codeBadLength]
    else match fourOfNumber (field body 0 1), flagOf (field body 1 1) with
      | some ln, some on => (s.setFrozen ln on).answer 0x1A tag body [codeOk]
      | _, _ => s.answer 0x1A tag body [codeBadValue])

end Sys2Proof.Machine
end

