-- ==== Sys2Proof/Machine/LinkUnit.lean ====
section
/-! DEFINITION. The Message Link (chapter 12): receiving bytes (R180), queueing good requests (R181), the request kinds that name
nothing (R181), and sending (R182). -/

namespace Sys2Proof.Machine

/-! ## Good requests (R181) -/

/-- The state with another link. -/
def State.setLink (s : State) (l : Link) : State := { s with link := l }

/-- The OVERRUN reply to a refused request (R181). -/
def overrunReply (kind tag : Byte) : Reply :=
  { kind := kind + 0x80, tag := tag, body := [codeOverrun], source := .overrun }

/-- A good request joins the queue, is refused with OVERRUN, or is discarded and counted (R181). -/
def Link.goodRequest (l : Link) (kind tag : Byte) (body : List Byte) : Link :=
  if l.requests.length < Config.requestCapacity then
    { l with requests := l.requests ++ [{ kind := kind, tag := tag, body := body, served := false }] }
  else if l.overrunSlot.isNone then
    { l with
      overrunSlot := some (overrunReply kind tag)
      outgoing := l.outgoing ++ [.reply (overrunReply kind tag)] }
  else { l with overruns := bump Config.countCap l.overruns }

/-! ## Receiving (R180) -/

/-- The frame in hand is discarded and counted. -/
def Link.discardFrame (l : Link) : Link := { l with rx := .hunt, badFrames := bump Config.countCap l.badFrames }

/-- The header of four bytes: length low, length high, kind, tag. -/
def headerOf (b : List Byte) : FrameHeader :=
  { length := field b 0 2, kind := b.getD 2 0, tag := b.getD 3 0 }

/-- The receiver after a complete header: the length decides. -/
def Link.takeHeader (l : Link) (h : FrameHeader) : Link :=
  if Config.bodyMax < h.length then l.discardFrame
  else if h.length = 0 then { l with rx := .check h [] none }
  else { l with rx := .body h [] }

/-- The bytes a frame's CRC covers, as they were received. -/
def FrameHeader.covered (h : FrameHeader) (body : List Byte) : List Byte := leBytes 2 h.length ++ [h.kind, h.tag] ++ body

/-- A whole frame is judged by its CRC and its kind, and the receiver hunts again. -/
def Link.judgeFrame (l : Link) (h : FrameHeader) (body : List Byte) (crc : List Byte) : Link :=
  if leNat crc = (crc16 (h.covered body)).toNat ∧ h.kind.toNat < 0x80 then
    Link.goodRequest { l with rx := .hunt } h.kind h.tag body
  else l.discardFrame

/-- One inbound byte in the receiver's state (table of R180). A byte with a stop-bit fault discards the frame it belongs to:
the frame in hand, or in HUNT the frame it would open. -/
def Link.takeByte (l : Link) (byte : Byte) (fault : Bool) : Link :=
  match l.rx with
  | .hunt =>
    if byte = 0x5C then (if fault then l.discardFrame else { l with rx := .header [] }) else l
  | .header got =>
    if fault then l.discardFrame
    else if got.length < 3 then { l with rx := .header (got ++ [byte]) }
    else l.takeHeader (headerOf (got ++ [byte]))
  | .body h got =>
    if fault then l.discardFrame
    else if got.length + 1 < h.length then { l with rx := .body h (got ++ [byte]) }
    else { l with rx := .check h (got ++ [byte]) none }
  | .check h body none =>
    if fault then l.discardFrame else { l with rx := .check h body (some byte) }
  | .check h body (some low) =>
    if fault then l.discardFrame else l.judgeFrame h body [low, byte]

/-- INBOUND_BYTE (R180). -/
def execInboundByte (byte : Byte) (fault : Bool) (s : State) : Host.Outcome State Fault Refusal :=
  .next (s.setLink { s.link.takeByte byte fault with lastByte := s.tb.t })

/-- The gap of the frame in hand has expired: more than 50 ticks since its last byte (R180). -/
def State.frameGapDue (s : State) : Bool :=
  s.link.rx ≠ .hunt && Config.byteGap < ticksSince s.tb.t s.link.lastByte

/-- FRAME_GAP_EXPIRY (R180). -/
def execFrameGapExpiry (s : State) : Host.Outcome State Fault Refusal :=
  .next (if s.frameGapDue then s.setLink s.link.discardFrame else s)

/-! ## Request kinds (R185) -/

/-- The kinds that name a request. -/
def requestKinds : List Byte :=
  [0x01, 0x02, 0x03, 0x04, 0x05, 0x06, 0x10, 0x11, 0x12, 0x13, 0x14, 0x18, 0x19, 0x1A, 0x20, 0x21, 0x22, 0x23, 0x28, 0x29,
    0x2A]

/-- A request kind that names no request (R180, R181). -/
def unknownKind (kind : Byte) : Bool := kind.toNat < 0x80 && !requestKinds.contains kind

/-- UNKNOWN_REQUEST (R181): a kind that names no request is answered BAD_KIND. -/
def execUnknownRequest (kind tag : Byte) (body : List Byte) (s : State) : Host.Outcome State Fault Refusal :=
  .next (if unknownKind kind then s.answer kind tag body [codeBadKind] else s)

/-! ## Sending (R182) -/

/-- The overrun slot when a frame's transmission begins: emptied by the reply it holds (R181). -/
def slotAfterBegin (slot : Option Reply) : OutFrame → Option Reply
  | .reply r => if r.source = .overrun then none else slot
  | .notice _ => slot

/-- The frame at the head of the outgoing queue begins; with none waiting the line idles (R182). -/
def Link.beginNext (l : Link) : Link :=
  match l.outgoing with
  | [] => l
  | f :: rest => { l with outgoing := rest, sending := some f, overrunSlot := slotAfterBegin l.overrunSlot f }

/-- The first served request leaves the queue (R181): replies are sent in the order of serving. -/
def dropServed : List Request → List Request
  | [] => []
  | r :: rs => if r.served then rs else r :: dropServed rs

/-- The request queue when a frame's transmission ends. -/
def requestsAfterEnd (requests : List Request) : OutFrame → List Request
  | .reply r => if r.source = .queued then dropServed requests else requests
  | .notice _ => requests

/-- A frame's transmission ends and the next begins. -/
def Link.endFrame (l : Link) (f : OutFrame) : Link :=
  Link.beginNext { l with sending := none, requests := requestsAfterEnd l.requests f }

/-- TRANSMIT_END (R181, R182): the frame in transmission ends and the next begins. A frame that waits on an idle line is in
transmission from then on, so with none begun it is the head's transmission that ends; with none waiting there is no effect. -/
def execTransmitEnd (s : State) : Host.Outcome State Fault Refusal :=
  .next (
    let l := if s.link.sending.isNone then s.link.beginNext else s.link
    match l.sending with
    | none => s
    | some f => s.setLink (l.endFrame f))

end Sys2Proof.Machine
end

