-- ==== Sys2Proof/Machine/Matching.lean ====
section
/-! DEFINITION. The Crossing Matcher (chapter 3): pairing the sides of a row (R38, R39), hold expiry with straddle and
single-wheel crossings (R40 to R42), the pending queue (R45 to R47), axles and their delivery (R48 to R51). -/

namespace Sys2Proof.Machine

/-! ## Order by onset -/

/-- a is earlier than or equal to b, by onset. -/
def onsetLe (a b : Tick) : Bool := a = b || tickBefore a b

/-- An entry put into a list by its tick: after every earlier or equal one and before every later one (R39, R45). -/
def insertBy {α : Type} (key : α → Tick) (x : α) : List α → List α
  | [] => [x]
  | e :: es => if onsetLe (key e) (key x) then e :: insertBy key x es else x :: e :: es

/-- The first entry that qualifies, and the list without it. -/
def takeFirst {α : Type} (p : α → Bool) : List α → Option (α × List α)
  | [] => none
  | e :: es => if p e then some (e, es) else (takeFirst p es).map fun (x, rest) => (x, e :: rest)

/-- The side of a report's channel. -/
def PulseReport.side (r : PulseReport) : Side := sideOf r.channel.strip

/-- The row of a report's channel. -/
def PulseReport.row (r : PulseReport) : Row := rowOf r.channel.strip

/-- The state with one half-crossing list replaced. -/
def State.setHalfList (s : State) (ln : LaneId) (row : Row) (l : List PulseReport) : State :=
  s.setMatcher ln ((s.matcher ln).setList row l)

/-! ## Axles (R48 to R51) -/

/-- The time an axle is delivered with: raised to the delivery mark when it is earlier (R51). -/
def deliveredTime (mark : Option Tick) (time : Tick) : Tick :=
  match mark with
  | none => time
  | some m => if tickBefore time m then m else time

/-- An axle is delivered (R51): its time is held to the delivery mark, which takes it, and the assembler takes the axle. -/
def State.deliver (s : State) (ln : LaneId) (axle : Axle) : State :=
  let time := deliveredTime (s.matcher ln).mark axle.time
  (s.setMatcher ln { s.matcher ln with mark := some time }).takeAxle ln { axle with time := time }

/-- A row-1-only axle (R48, R50). -/
def rowOneAxle (ln : LaneId) (c : Crossing) : Axle :=
  { lane := ln, row1 := some c, row2 := none, ownSpeed := none, time := c.onset }

/-- An axle of a match: its own speed is fixed with the present N_ref (R46, R49, R50). -/
def matchAxle (ln : LaneId) (w : LaneItem) (nRef : Nat) (c1 c2 : Crossing) : Axle :=
  { lane := ln, row1 := some c1, row2 := some c2,
    ownSpeed := some (roundNat (w.rowSpacing * nRef) (ticksSince c2.onset c1.onset)), time := c1.onset }

/-- An orphan axle: its time is estimated with v_est, at least 2 778 mm/s (R50). -/
def orphanAxle (ln : LaneId) (w : LaneItem) (nRef vEst : Nat) (c : Crossing) : Axle :=
  { lane := ln, row1 := none, row2 := some c, ownSpeed := none,
    time := tickSub c.onset (roundNat (w.rowSpacing * nRef) (max Config.heldSpeedMin vEst)) }

/-! ## Crossings go on (R43, R45, R46) -/

/-- A row-1 crossing joins the pending queue (R45). The ninth crossing delivers the oldest of the nine. -/
def State.joinQueue (s : State) (ln : LaneId) (c : Crossing) : State :=
  let q := (s.matcher ln).queue
  let put := fun (s : State) (rest : List Crossing) =>
    s.setMatcher ln { s.matcher ln with queue := insertBy Crossing.onset c rest }
  match q with
  | [] => put s []
  | head :: rest =>
    if q.length < Config.pendingCapacity then put s q
    else if tickBefore c.onset head.onset then s.deliver ln (rowOneAxle ln c)
    else (put s rest).deliver ln (rowOneAxle ln head)

/-- Δt of a row-2 crossing counts as less than Δt_min: it is, or the crossing began before the row-1 crossing (R46). -/
def tooEarly (win : Windows) (c1 c2 : Crossing) : Bool :=
  let dt := ticksSince c2.onset c1.onset
  2 ^ 31 ≤ dt || dt < win.dtMin

/-- A row-2 crossing is judged against the oldest pending crossing (R46): a match, or an orphan. -/
def State.judgeRow2 (s : State) (ln : LaneId) (c : Crossing) : State :=
  match (s.asm ln).working, (s.matcher ln).windows with
  | some w, some win =>
    let orphan := s.deliver ln (orphanAxle ln w s.tb.nRef (s.asm ln).borrowed c)
    match (s.matcher ln).queue with
    | [] => orphan
    | head :: rest =>
      if tooEarly win head c then orphan
      else (s.setMatcher ln { s.matcher ln with queue := rest }).deliver ln (matchAxle ln w s.tb.nRef head c)
  | _, _ => s

/-- A formed crossing goes on as part of the event that formed it (R43). -/
def State.formCrossing (s : State) (c : Crossing) : State :=
  match c.row with
  | .one => s.joinQueue c.lane c
  | .two => s.judgeRow2 c.lane c

/-- A two-wheel crossing of two reports of one lane and row (R38, R43). -/
def pairCrossing (ln : LaneId) (row : Row) (a b : PulseReport) : Crossing :=
  let (l, r) := if a.side = .left then (a, b) else (b, a)
  { lane := ln, row := row, onset := if tickBefore b.onset a.onset then b.onset else a.onset, left := some l,
    right := some r, straddle := false, missingSide := false }

/-- A straddle crossing: the lower lane's right pulse as the left wheel, the upper lane's left pulse as the right (R41). -/
def straddleCrossing (lower : LaneId) (row : Row) (low up : PulseReport) : Crossing :=
  { lane := lower, row := row, onset := if tickBefore up.onset low.onset then up.onset else low.onset, left := some low,
    right := some up, straddle := true, missingSide := false }

/-- A single-wheel crossing; the missing-side mark is set when the absent side's channel is FAILED or DISABLED (R42). -/
def State.singleCrossing (s : State) (ln : LaneId) (row : Row) (r : PulseReport) : Crossing :=
  let absent : ChannelId := ⟨ln, stripOf row r.side.other⟩
  { lane := ln, row := row, onset := r.onset, left := if r.side = .left then some r else none,
    right := if r.side = .left then none else some r, straddle := false, missingSide := !(s.unit absent).running }

/-! ## Resolution of a held pulse (R40 to R42) -/

/-- The adjoining lane across an inner edge: right of lanes 1 to 3, left of lanes 2 to 4 (R41). -/
def adjoining (ln : LaneId) (side : Side) : Option LaneId :=
  match side, ln with
  | .right, 0 => some 1
  | .right, 1 => some 2
  | .right, 2 => some 3
  | .right, 3 => none
  | .left, 0 => none
  | .left, 1 => some 0
  | .left, 2 => some 1
  | .left, 3 => some 2

/-- The lower of a pulse's lane and the lane across its edge. -/
def lowerLane (ln other : LaneId) (side : Side) : LaneId := if side = .right then ln else other

/-- The entry a resolved pulse straddles with: of the adjoining lane's list of the row, the first of the adjoining side whose
onset differs by the lower lane's P or less (R41). -/
def State.straddlePartner (s : State) (ln : LaneId) (row : Row) (r : PulseReport) :
    Option (LaneId × PulseReport × List PulseReport) :=
  match adjoining ln r.side with
  | none => none
  | some other =>
    match (s.asm (lowerLane ln other r.side)).working with
    | none => none
    | some w =>
      (takeFirst (fun e => e.side = r.side.other && tickDist e.onset r.onset ≤ w.pairWindow)
        ((s.matcher other).list row)).map fun (e, rest) => (other, e, rest)

/-- An entry already taken from its list is resolved into a straddle or a single-wheel crossing, which goes on at once
(R40 to R43). -/
def State.resolve (s : State) (ln : LaneId) (row : Row) (r : PulseReport) : State :=
  match s.straddlePartner ln row r with
  | none => s.formCrossing (s.singleCrossing ln row r)
  | some (other, e, rest) =>
    let lower := lowerLane ln other r.side
    let c := if r.side = .right then straddleCrossing lower row r e else straddleCrossing lower row e r
    (s.setHalfList other row rest).formCrossing c

/-! ## A report reaches the matcher (R38, R39) -/

/-- A pulse that found no partner joins its list by onset (R39). -/
def State.joinList (s : State) (ln : LaneId) (row : Row) (r : PulseReport) : State :=
  s.setHalfList ln row (insertBy PulseReport.onset r ((s.matcher ln).list row))

/-- A pulse joins its list; a full list first has its earliest entry resolved (R39). -/
def State.holdPulse (s : State) (ln : LaneId) (row : Row) (r : PulseReport) : State :=
  match (s.matcher ln).list row with
  | [] => s.joinList ln row r
  | head :: rest =>
    if rest.length + 1 < Config.listCapacity then s.joinList ln row r
    else ((s.setHalfList ln row rest).resolve ln row head).joinList ln row r

/-- A pulse report reaches the matcher of an IN_SERVICE lane (R38): it pairs with the earliest qualifying entry of the other
side, or joins the list. -/
def State.matchPulse (s : State) (w : LaneItem) (r : PulseReport) : State :=
  let ln := r.channel.lane
  match takeFirst (fun e => e.side = r.side.other && tickDist e.onset r.onset ≤ w.pairWindow)
      ((s.matcher ln).list r.row) with
  | some (e, rest) => (s.setHalfList ln r.row rest).formCrossing (pairCrossing ln r.row e r)
  | none => s.holdPulse ln r.row r

/-- A report that has reached its lane's matcher: matched in an IN_SERVICE lane (R38), and nothing in an OUT one (R53). -/
def State.takeReport (s : State) (r : PulseReport) : State :=
  match (s.asm r.channel.lane).service, (s.asm r.channel.lane).working with
  | .inService, some w => (s.matchPulse w r).settle
  | _, _ => s

/-- PULSE_REPORT (R38): the oldest undelivered report reaches its lane's matcher. -/
def execPulseReport (s : State) : Host.Outcome State Fault Refusal :=
  .next (match s.mail.reports with
    | [] => s
    | r :: rest => State.takeReport { s with mail := { s.mail with reports := rest } } r)

/-! ## Expiries (R40, R47, R51) -/

/-- The oldest held pulse of a channel, when it has waited more than H ticks after its end (R40), with the rest of its list. -/
def State.holdDue (s : State) (ch : ChannelId) : Option (PulseReport × List PulseReport) :=
  match (s.asm ch.lane).working, takeFirst (fun e => e.side = sideOf ch.strip) ((s.matcher ch.lane).list (rowOf ch.strip)) with
  | some w, some (e, rest) => if w.hold < ticksSince s.tb.t e.ended then some (e, rest) else none
  | _, _ => none

/-- HOLD_EXPIRY (R40): a channel's held pulse is resolved. -/
def execHoldExpiry (ch : ChannelId) (s : State) : Host.Outcome State Fault Refusal :=
  .next (match s.holdDue ch with
    | none => s
    | some (e, rest) => ((s.setHalfList ch.lane (rowOf ch.strip) rest).resolve ch.lane (rowOf ch.strip) e).settle)

/-- The oldest pending crossing, when it is older than Δt_max (R47), with the rest of the queue. -/
def State.pendingDue (s : State) (ln : LaneId) : Option (Crossing × List Crossing) :=
  match (s.matcher ln).windows, (s.matcher ln).queue with
  | some win, head :: rest => if win.dtMax < ticksSince s.tb.t head.onset then some (head, rest) else none
  | _, _ => none

/-- PENDING_EXPIRY (R47): the oldest pending crossing is delivered as a row-1-only axle. -/
def execPendingExpiry (ln : LaneId) (s : State) : Host.Outcome State Fault Refusal :=
  .next (match s.pendingDue ln with
    | none => s
    | some (head, rest) =>
      ((s.setMatcher ln { s.matcher ln with queue := rest }).deliver ln (rowOneAxle ln head)).settle)

/-- The delivery mark has lapsed: T − mark at 2^30 or more (R51). That the mark of an OUT lane lapses too, although R53 has the lane
leave OUT with the mark it held when it went OUT, is the model's choice (notes/assumptions/34.md). -/
def State.markDue (s : State) (ln : LaneId) : Bool :=
  (s.matcher ln).mark.any fun m => Config.markLapse ≤ ticksSince s.tb.t m

/-- DELIVERY_MARK_LAPSE (R51). -/
def execDeliveryMarkLapse (ln : LaneId) (s : State) : Host.Outcome State Fault Refusal :=
  .next (if s.markDue ln then s.setMatcher ln { s.matcher ln with mark := none } else s)

end Sys2Proof.Machine
end

