-- ==== Sys2Proof/Machine/Records.lean ====
section
/-! DEFINITION. The Record Store (10.1 to 10.4): taking a delivered record (R161), the ready notice (R165), the settings of a
commit (R165, R170), and the requests RECORD_FETCH and RECORD_RELEASE (R163, R164). -/

namespace Sys2Proof.Machine

/-- The serial of the oldest held record; absent when the store is empty (R159). -/
def RecordStore.oldest (r : RecordStore) : Option Nat := r.held.head?.bind VehicleRecord.serial

/-- RECORDS_READY is raised and the arming disarmed when it is armed and the held count has reached the threshold (R165). -/
def State.readyTest (s : State) : State :=
  if s.store.armed ∧ s.store.threshold ≤ s.store.held.length then
    State.raise { s with store := { s.store with armed := false } }
      (.recordsReady s.store.held.length s.store.oldest)
  else s

/-- The arming becomes armed when the held count is below the threshold (R165). -/
def RecordStore.rearm (r : RecordStore) : RecordStore :=
  if r.held.length < r.threshold then { r with armed := true } else r

/-- A record is dropped: counted, and reported to the Tally Unit (R161). -/
def State.dropRecord (s : State) (ln : LaneId) : State :=
  { s with
    store := { s.store with dropped := bump Config.countCap s.store.dropped }
    mail := { s.mail with drops := s.mail.drops ++ [ln] } }

/-- A record joins at the newest end (R161), and RECORDS_READY may be raised (R165). -/
def State.joinRecord (s : State) (r : VehicleRecord) : State :=
  State.readyTest { s with store := { s.store with held := s.store.held ++ [r] } }

/-- The store takes a delivered record (R161): it joins when there is room and it has a serial, and is dropped otherwise. -/
def State.storeRecord (s : State) (r : VehicleRecord) : State :=
  if r.serial.isSome ∧ s.store.held.length < Config.storeCapacity then s.joinRecord r else s.dropRecord r.lane

/-- RECORD_STORE_DELIVERY (R161): the oldest undelivered record reaches the store. -/
def execRecordStoreDelivery (s : State) : Host.Outcome State Fault Refusal :=
  .next (match s.mail.toStore with
    | [] => s
    | r :: rest => State.storeRecord { s with mail := { s.mail with toStore := rest } } r)

/-- The tally interval and the threshold of a commit are in force; the new threshold may raise the notice or re-arm it
(R165, R170). -/
def State.takeSite (s : State) (site : SiteItem) : State :=
  let fresh := { s with
    tally := { s.tally with interval := site.interval }
    store := { s.store with threshold := site.threshold } }
  if s.store.armed then fresh.readyTest else { fresh with store := fresh.store.rearm }

/-- SITE_SETTINGS_TAKE (R152, R165, R170): the oldest offer of a commit is taken. -/
def execSiteSettingsTake (s : State) : Host.Outcome State Fault Refusal :=
  .next (match s.mail.siteOffers with
    | [] => s
    | site :: rest => State.takeSite { s with mail := { s.mail with siteOffers := rest } } site)

/-- A record's serial is at or above s; every held record has a serial (R162). -/
def serialFrom (n : Nat) (r : VehicleRecord) : Bool := r.serial.any fun m => n ≤ m

/-- The reply to RECORD_FETCH of a serial and a count (R163). -/
def RecordStore.fetch (st : RecordStore) (serial count : Nat) : List Byte :=
  if !within 1 4 count then [codeBadValue]
  else match st.held.filter (serialFrom serial) with
    | [] => [codeNotFound]
    | r :: rest => codeOk :: ((r :: rest).take count).flatMap VehicleRecord.bytes

/-- RECORD_FETCH (R163): body s (6), k. -/
def execRecordFetch (tag : Byte) (body : List Byte) (s : State) : Host.Outcome State Fault Refusal :=
  .next (s.answer 0x20 tag body
    (if body.length ≠ 7 then [codeBadLength] else s.store.fetch (field body 0 6) (field body 6 1)))

/-- A serial lies at or above the counter, so that its vehicle is not yet closed; with the counter exhausted every serial up
to the highest is accepted (R164). -/
def RecordStore.unassigned (st : RecordStore) (serial : Nat) : Bool :=
  match st.serial with
  | some c => c ≤ serial
  | none => Config.serialMax < serial

/-- The store after a release of the records up to a serial (R164), with its re-arming (R165). -/
def RecordStore.release (st : RecordStore) (serial : Nat) : RecordStore :=
  RecordStore.rearm { st with held := st.held.filter fun r => serialFrom (serial + 1) r }

/-- RECORD_RELEASE (R164): body s (6). -/
def execRecordRelease (tag : Byte) (body : List Byte) (s : State) : Host.Outcome State Fault Refusal :=
  .next (
    if body.length ≠ 6 then s.answer 0x21 tag body [codeBadLength]
    else
      let serial := leNat body
      if s.store.unassigned serial then s.answer 0x21 tag body [codeBadValue]
      else
        let st := s.store.release serial
        { s with store := st }.answer 0x21 tag body (codeOk :: (leBytes 2 st.held.length ++ optZero 6 st.oldest)))

end Sys2Proof.Machine
end

