-- ==== Sys2Proof/Machine/Temperature.lean ====
section
/-! DEFINITION. The Pavement Temperature Unit (chapter 4): probe edges and gates (R58 to R60), conversion (R61), probe states
(R62 to R67), the selection and T_w (R68), the settings of a commit (R57) and PROBE_RESTORE (R67). -/

namespace Sys2Proof.Machine

/-! ## Access, notices and the selection -/

/-- A probe by number. -/
def State.probe (s : State) (p : ProbeId) : Probe := s.temp.probes.get p

/-- A probe is replaced. A change of its state or of its role raises SERVICE_CHANGE with the probe marked (R71). -/
def State.putProbe (s : State) (p : ProbeId) (x : Probe) : State :=
  let s' := { s with temp := { s.temp with probes := s.temp.probes.set p x } }
  if (s.probe p).state = x.state ∧ (s.probe p).role = x.role then s' else s'.raiseProbe p

/-- A probe that is trusted for weighing: GOOD or SUSPECT (R68). -/
def Probe.usable (p : Probe) : Bool :=
  match p.state with
  | .good | .suspect => true
  | .absent | .seeding | .failed => false

/-- The lowest-numbered usable probe of a role; a commit admits one PRIMARY and one ALTERNATE at most (R149 check 4). -/
def TempUnit.serving (u : TempUnit) (r : Role) : Option Probe :=
  u.probes.toList.find? fun p => p.role = r && p.usable

/-- The selection and the probe it names (R68). -/
def TempUnit.choose (u : TempUnit) : Selection × Option Probe :=
  match u.serving .primary, u.serving .alternate with
  | some p, _ => (.primary, some p)
  | none, some p => (.alternate, some p)
  | none, none => (.none, none)

/-- T_w after the selection is re-evaluated: the selected probe's smoothed value, or the value it had (R68). -/
def TempUnit.chosenTw (u : TempUnit) : Int := (u.choose.2.bind Probe.smoothed).getD u.tw

/-- The unit with its selection re-evaluated: T_w follows the selected probe with the held mark clear, or keeps its value with
the held mark set (R68). -/
def TempUnit.reselect (u : TempUnit) : TempUnit :=
  { u with selection := u.choose.1, tw := u.chosenTw, held := u.choose.2.isNone }

/-- The selection is re-evaluated, and a change of T_w reaches the four active tallies (R68, R168). -/
def State.reselect (s : State) : State :=
  let u := s.temp.reselect
  let s' := { s with temp := u }
  if u.tw = s.temp.tw then s'
  else { s' with tally := { s.tally with active := s.tally.active.map fun t => t.seeTw u.tw } }

/-! ## Conversion (R59, R61) -/

/-- The temperature of an f10 in a table of points; none outside it (R61). -/
def convert : List (Nat × Int) → Nat → Option Int
  | (f1, t1) :: (f2, t2) :: rest, f =>
    if f < f1 then none
    else if f ≤ f2 then some (t1 + roundInt ((t2 - t1) * ((f : Int) - f1)) (f2 - f1))
    else convert ((f2, t2) :: rest) f
  | [_], _ => none
  | [], _ => none

/-- f10 of a count C over a gate of G ticks at N_ref (R59). -/
def frequency (count nRef gate : Nat) : Nat := min Config.wordCap (roundNat (10 * count * nRef) gate)

/-- The reading of a count and its f10 (R59). -/
def readingOf (points : List (Nat × Int)) (count f10 : Nat) : Reading :=
  if count = 0 then .noSignal
  else match convert points f10 with
    | some t => .temp t
    | none => .outOfRange

/-! ## Probe states (R62 to R66) -/

/-- Entry to SEEDING: the smoothed value absent, the runs empty (R57). -/
def Probe.seed (p : Probe) : Probe :=
  { p with state := .seeding, smoothed := none, rejectRun := 0, recovery := none }

/-- Entry to ABSENT (R57). -/
def Probe.remove (p : Probe) : Probe :=
  { p with state := .absent, smoothed := none, lastF10 := none, lastReading := none, rejectRun := 0, recovery := none }

/-- Entry to FAILED: both runs empty, the smoothed value kept for reporting (R62, R64, R65). -/
def Probe.fail (p : Probe) : Probe := { p with state := .failed, rejectRun := 0, recovery := none }

/-- Entry to GOOD with a smoothed value (R62, R63, R66). -/
def Probe.settleAt (p : Probe) (t : Int) : Probe :=
  { p with state := .good, smoothed := some t, rejectRun := 0, recovery := none }

/-- A rejected reading: the reject run rises and the probe goes to the given state, or to FAILED at the fourth (R62, R64). -/
def Probe.reject (p : Probe) (next : ProbeState) : Probe :=
  if Config.probeRejectLimit ≤ p.rejectRun + 1 then p.fail else { p with state := next, rejectRun := p.rejectRun + 1 }

/-- The smoothed value after an accepted reading (R63). -/
def smoothReading (smoothed t : Int) (q : Nat) : Int := smoothed + roundInt (t - smoothed) (2 ^ q)

/-- An in-range reading in GOOD or SUSPECT: accepted within J of the smoothed value, otherwise rejected (R63, R64). -/
def Probe.track (p : Probe) (t : Int) (q jump : Nat) : Probe :=
  let old := p.smoothed.getD t
  if (t - old).natAbs ≤ jump then p.settleAt (smoothReading old t q) else p.reject .suspect

/-- An in-range reading in FAILED (R66). -/
def Probe.recover (p : Probe) (t : Int) (jump : Nat) : Probe :=
  match p.recovery with
  | none => { p with recovery := some { count := 1, latest := t } }
  | some r =>
    if (t - r.latest).natAbs ≤ jump then
      if Config.recoveryLength ≤ r.count + 1 then p.settleAt t
      else { p with recovery := some { count := r.count + 1, latest := t } }
    else { p with recovery := some { count := 1, latest := t } }

/-- A probe takes a reading according to its state (table of 4.4). -/
def Probe.judge (p : Probe) (r : Reading) (q jump : Nat) : Probe :=
  match p.state, r with
  | .absent, _ => p
  | .seeding, .temp t => p.settleAt t
  | .seeding, .outOfRange => p.reject .seeding
  | .seeding, .noSignal => p.fail
  | .good, .temp t => p.track t q jump
  | .good, .outOfRange => p.reject .suspect
  | .good, .noSignal => p.fail
  | .suspect, .temp t => p.track t q jump
  | .suspect, .outOfRange => p.reject .suspect
  | .suspect, .noSignal => p.fail
  | .failed, .temp t => p.recover t jump
  | .failed, .outOfRange => { p with recovery := none }
  | .failed, .noSignal => { p with recovery := none }

/-- A probe takes the count of a finished gate: f10, reading and judgement (R59). -/
def Probe.takeGate (p : Probe) (count nRef gate q jump : Nat) : Probe :=
  let f10 := frequency count nRef gate
  let r := readingOf p.points count f10
  { p with lastF10 := some f10, lastReading := some r }.judge r q jump

/-! ## Gates (R58 to R60) -/

/-- The probes in the order of their turns after probe p, p itself last (R58). -/
def turnsAfter : ProbeId → List ProbeId
  | 0 => [1, 2, 3, 0]
  | 1 => [2, 3, 0, 1]
  | 2 => [3, 0, 1, 2]
  | 3 => [0, 1, 2, 3]

/-- The first probe of an order that has a role. -/
def TempUnit.firstWithRole (u : TempUnit) (order : List ProbeId) : Option ProbeId :=
  order.find? fun p => (u.probes.get p).role ≠ .none

/-- A gate for a probe started on a tick with the G in force; none when there is no probe to gate (R58). -/
def TempUnit.startGate (u : TempUnit) (p : Option ProbeId) (now : Tick) : TempUnit :=
  { u with gate := p.map fun p =>
      { probe := p, start := now, length := u.gateLength, base := (u.probes.get p).edges } }

/-- The state with a gate started for a probe on this tick. -/
def State.startGate (s : State) (p : Option ProbeId) : State := { s with temp := s.temp.startGate p s.tb.t }

/-- The rising edges of a gate's probe since its start (R58, R59). -/
def State.gateCount (s : State) (g : Gate) : Nat := min Config.gateCountCap ((s.probe g.probe).edges - g.base)

/-- The gate that ends on this tick (R58). -/
def State.gateDue (s : State) : Option Gate :=
  match s.temp.gate with
  | none => none
  | some g => if g.length ≤ ticksSince s.tb.t g.start then some g else none

/-- A gate ends (R58, R59): its probe takes the reading, the selection follows, and the next gate starts. -/
def State.endGate (s : State) (g : Gate) : State :=
  let p := (s.probe g.probe).takeGate (s.gateCount g) s.tb.nRef g.length s.temp.q s.temp.jump
  let s' := (s.putProbe g.probe p).reselect
  s'.startGate (s'.temp.firstWithRole (turnsAfter g.probe))

/-- GATE_END (R59). -/
def execGateEnd (s : State) : Host.Outcome State Fault Refusal :=
  .next (match s.gateDue with
    | none => s
    | some g => s.endGate g)

/-- PROBE_EDGE (R58): the probe's edge counter counts one rising edge. -/
def execProbeEdge (p : ProbeId) (s : State) : Host.Outcome State Fault Refusal :=
  .next (
    let x := s.probe p
    { s with temp := { s.temp with probes := s.temp.probes.set p { x with edges := x.edges + 1 } } })

/-- The gate in progress started again on this tick for the same probe, with the G in force (R60, R73). -/
def State.restartGate (s : State) : State :=
  match s.temp.gate with
  | none => s
  | some g => s.startGate (some g.probe)

/-! ## The settings of a commit (R57) -/

/-- A probe takes its committed item (table of R57). -/
def Probe.takeItem (p : Probe) (item : ProbeItem) : Probe :=
  let taken := { p with role := item.role, points := item.points }
  if p.role = .none then (if item.role = .none then taken else taken.seed)
  else if item.role = .none then taken.remove
  else if p.points = item.points then taken
  else taken.seed

/-- The gate after the probes have been treated (R58, R60): started for the lowest-numbered probe with a role when none runs,
abandoned for the next when its probe has lost its role, and otherwise running on. -/
def State.gateAfterTake (s : State) : State :=
  match s.temp.gate with
  | none => s.startGate (s.temp.firstWithRole fours)
  | some g =>
    if (s.probe g.probe).role = .none then s.startGate (s.temp.firstWithRole (turnsAfter g.probe)) else s

/-- The unit takes the SITE and PROBE settings of a committed set (R57). -/
def State.takeProbeSettings (s : State) (set : TableSet) : State :=
  let fresh := { s with temp :=
    { s.temp with gateLength := set.site.gate, q := set.site.q, jump := set.site.jump } }
  let treated := fours.foldl (fun s p => s.putProbe p ((s.probe p).takeItem (set.probes.get p))) fresh
  treated.reselect.gateAfterTake

/-- PROBE_SETTINGS_TAKE (R57): the oldest offer of a commit is taken. -/
def execProbeSettingsTake (s : State) : Host.Outcome State Fault Refusal :=
  .next (match s.mail.tempOffers with
    | [] => s
    | set :: rest => State.takeProbeSettings { s with mail := { s.mail with tempOffers := rest } } set)

/-- PROBE_RESTORE (R67): a FAILED probe enters SEEDING; a probe in any other state is unchanged. The notice is raised before the
reply is queued (the model's choice, notes/assumptions/32.md). -/
def execProbeRestore (tag : Byte) (body : List Byte) (s : State) : Host.Outcome State Fault Refusal :=
  .next (
    if body.length ≠ 1 then s.answer 0x06 tag body [codeBadLength]
    else match fourOfNumber (leNat body) with
      | none => s.answer 0x06 tag body [codeBadValue]
      | some p =>
        (if (s.probe p).state = .failed then (s.putProbe p (s.probe p).seed).reselect else s).answer 0x06 tag body
          [codeOk])

end Sys2Proof.Machine
end

