-- ==== Sys2Proof/Machine/Report.lean ====
section
/-! DEFINITION. The STATUS and LIVE_READ replies (R13, R35, R55, R72, R92, R156, R172, R178, R183) in the layout of R185:
blocks in chapter order, fields in the order of their rules. -/

namespace Sys2Proof.Machine

/-! ## Codes of states, numbered in the order their chapters list them (R185) -/

def LockState.code : LockState → Nat
  | .unlocked => 0
  | .locked => 1
  | .free => 2

def Service.code : Service → Nat
  | .active => 0
  | .suspect => 1
  | .failed => 2
  | .disabled => 3

def Detector.code : Detector → Nat
  | .quiet => 0
  | .onset _ _ => 1
  | .pulse _ _ _ => 2
  | .held _ => 3

def Reported.code : Reported → Nat
  | .out => 0
  | .degraded => 1
  | .inService => 2

def ProbeState.code : ProbeState → Nat
  | .absent => 0
  | .seeding => 1
  | .good => 2
  | .suspect => 3
  | .failed => 4

def Selection.code : Selection → Nat
  | .primary => 0
  | .alternate => 1
  | .none => 2

def CaptureState.code : CaptureState → Nat
  | .idle => 0
  | .armed => 1
  | .recording => 2
  | .held => 3

/-! ## Parts both replies share -/

/-- A lane number, absent as 0xFF. -/
def optLane (l : Option LaneId) : List Byte := optOnes 1 (l.map fun n => n.val + 1)

/-- A capture trigger and its class: two bytes, 0xFF both when there is none (R185). -/
def triggerBytes : Option Trigger → List Byte
  | none => [0xFF, 0xFF]
  | some .next => [0, 0]
  | some .flagged => [1, 0]
  | some (.cls c) => 2 :: codeByte c
  | some .enforce => [3, 0]

/-- The Capture Unit's state, armed lane, d, trigger and the sample count of a HELD capture (R178). -/
def CaptureUnit.bytes (c : CaptureUnit) : List Byte :=
  codeByte c.state.code ++ optLane c.lane ++ optOnes 1 c.d ++ triggerBytes c.trigger ++
  optOnes 2 (c.description.map Description.count)

/-- The weighing temperature and the held mark (R72). -/
def TempUnit.twBytes (u : TempUnit) : List Byte := leSigned 2 u.tw ++ flagByte u.held

/-! ## STATUS (R13, R35, R72, R92, R156, R172, R178, R183) -/

/-- The timebase's fields (R13). -/
def Timebase.bytes (tb : Timebase) : List Byte :=
  codeByte tb.lock.code ++ leBytes 2 tb.nRef ++ optWord tb.lastInterval ++ leBytes 4 tb.t.toNat ++
  leBytes 4 tb.seconds.toNat ++ leBytes 2 (ticksSince tb.t tb.mark) ++ leBytes 2 tb.rejectedEdges ++ leBytes 2 tb.relocks

/-- A channel in STATUS: service state and settings generation (R35). -/
def ChannelUnit.statusBytes (u : ChannelUnit) : List Byte := codeByte u.service.code ++ optZero 2 u.generation

/-- A lane's adopted generation number. -/
def Lane.adoptedBytes (l : Lane) : List Byte := optZero 2 (l.asm.adopted.map Generation.number)

/-- A lane in STATUS: reported state and adopted generation (R92). -/
def Lane.statusBytes (l : Lane) : List Byte := codeByte l.reported.code ++ l.adoptedBytes

/-- A probe in STATUS: role and state (R72). -/
def Probe.statusBytes (p : Probe) : List Byte := codeByte p.role.code ++ codeByte p.state.code

/-- The Table Store's own fields (R156). -/
def TableStore.bytes (t : TableStore) : List Byte :=
  flagByte t.staging.isSome ++ optZero 2 (t.staging.bind Staging.source) ++
  optZero 2 (t.active.map Generation.number) ++ optZero 2 (t.retiring.map Generation.number)

/-- The Record Store's fields (R172). -/
def RecordStore.bytes (r : RecordStore) : List Byte :=
  leBytes 2 r.held.length ++ optZero 6 r.oldest ++ optZero 6 r.serial ++ leBytes 2 r.dropped ++
  codeByte (if r.armed then 0 else 1)

/-- The Tally Unit's fields (R172). -/
def TallyUnit.bytes (t : TallyUnit) : List Byte :=
  codeByte t.queue.length ++ leBytes 4 t.openedAt.toNat ++ leBytes 2 t.extension

/-- The body of a STATUS reply after its result code. -/
def State.statusBytes (s : State) : List Byte :=
  s.tb.bytes ++
  allChannels.flatMap (fun ch => (s.unit ch).statusBytes) ++
  s.lanes.toList.flatMap Lane.statusBytes ++
  s.temp.probes.toList.flatMap Probe.statusBytes ++ s.temp.twBytes ++
  s.tables.bytes ++ s.lanes.toList.flatMap Lane.adoptedBytes ++
  allChannels.flatMap (fun ch => optZero 2 (s.unit ch).generation) ++
  s.store.bytes ++ s.tally.bytes ++ s.capture.bytes ++
  leBytes 2 s.link.badFrames ++ leBytes 2 s.link.overruns

/-- The four counts a STATUS reply reports are set to 0 (R183). -/
def State.clearReported (s : State) : State :=
  { s with
    tb := { s.tb with rejectedEdges := 0 }
    store := { s.store with dropped := 0 }
    link := { s.link with badFrames := 0, overruns := 0 } }

/-- STATUS (R183): the reply is built from each block as it stands, and the counts it reports are cleared. -/
def execStatus (tag : Byte) (body : List Byte) (s : State) : Host.Outcome State Fault Refusal :=
  .next (
    if body.length ≠ 0 then s.answer 0x01 tag body [codeBadLength]
    else s.clearReported.answer 0x01 tag body (codeOk :: s.statusBytes))

/-! ## LIVE_READ (R35, R55, R72, R92, R172, R178) -/

/-- A channel in LIVE_READ (R35). -/
def ChannelUnit.liveBytes (u : ChannelUnit) : List Byte :=
  codeByte u.service.code ++ codeByte u.detector.code ++ leSigned 2 u.y ++ leSigned 2 (roundInt u.baseline 256) ++
  leSigned 4 u.lastExcess ++ leBytes 1 u.overlong ++ leBytes 1 u.miss ++ optZero 2 u.generation

/-- A lane's matcher in LIVE_READ (R55). -/
def Matcher.liveBytes (m : Matcher) (quiet : Bool) : List Byte :=
  codeByte m.list1.length ++ codeByte m.list2.length ++ codeByte m.queue.length ++
  optTick (m.queue.head?.map Crossing.onset) ++ optOnes 2 (m.windows.map Windows.dtMin) ++
  optOnes 2 (m.windows.map Windows.dtMax) ++ optTick m.mark ++ flagByte quiet

/-- A lane's assembler in LIVE_READ (R92). -/
def Assembler.liveBytes (a : Assembler) : List Byte :=
  flagByte a.context.isSome ++ flagByte a.presence ++ optFlag (a.working.map LaneItem.loop) ++ leBytes 2 a.heldSpeed ++
  optTick (a.context.map Context.openTick) ++ codeByte ((a.context.map fun c => c.axles.length).getD 0) ++
  optZero 2 (a.context.map fun c => c.generation.number) ++ optTemp (a.context.map Context.tw) ++
  optFlag (a.context.map Context.held) ++ optOnes 1 (a.context.map fun c => c.band.val) ++
  optOnes 2 (a.context.map Context.kd) ++ optFlag (a.context.map Context.fell) ++ optFlag (a.context.map Context.split)

/-- A reading, with its codes for OUT_OF_RANGE and NO_SIGNAL (R185). -/
def readingBytes : Option Reading → List Byte
  | none => optTemp none
  | some (.temp t) => leSigned 2 t
  | some .outOfRange => leBytes 2 0x7FFF
  | some .noSignal => leBytes 2 0x7FFE

/-- A probe in LIVE_READ (R72). -/
def Probe.liveBytes (p : Probe) : List Byte :=
  codeByte p.role.code ++ codeByte p.state.code ++ optWord p.lastF10 ++ readingBytes p.lastReading ++ optTemp p.smoothed ++
  leBytes 1 p.rejectRun ++ leBytes 1 ((p.recovery.map Recovery.count).getD 0)

/-- The Temperature Unit's own fields in LIVE_READ (R72). -/
def TempUnit.liveBytes (u : TempUnit) : List Byte :=
  optOnes 1 (u.gate.map fun g => g.probe.val + 1) ++ codeByte u.selection.code ++ u.twBytes ++ codeByte (bandOf u.tw).val

/-- A lane's tally in LIVE_READ: its class count total and its dropped count (R172). -/
def Tally.liveBytes (t : Tally) : List Byte := leBytes 4 t.classes.sum ++ leBytes 2 t.dropped

/-- The Capture Unit in LIVE_READ: as in STATUS, and in RECORDING the start's tick and the sets from it (R178). -/
def CaptureUnit.liveBytes (c : CaptureUnit) : List Byte :=
  c.bytes ++
  (if c.state = .recording then optTick c.startTick ++ leBytes 2 c.sets.length else optTick none ++ optOnes 2 none)

/-- The body of a LIVE_READ reply after its result code. -/
def State.liveBytes (s : State) : List Byte :=
  allChannels.flatMap (fun ch => (s.unit ch).liveBytes) ++
  fours.flatMap (fun ln => (s.matcher ln).liveBytes (s.quiet ln) ++ (s.asm ln).liveBytes) ++
  s.temp.probes.toList.flatMap Probe.liveBytes ++ s.temp.liveBytes ++
  s.tally.active.toList.flatMap Tally.liveBytes ++ s.capture.liveBytes

/-- LIVE_READ (R183): building the reply changes nothing. -/
def execLiveRead (tag : Byte) (body : List Byte) (s : State) : Host.Outcome State Fault Refusal :=
  .next (s.answer 0x02 tag body (if body.length ≠ 0 then [codeBadLength] else codeOk :: s.liveBytes))

end Sys2Proof.Machine
end

