-- ==== Sys2Proof/Machine/Channels.lean ====
section
/-! DEFINITION. The Strip Channel Units (chapter 2): conditioning (R16 to R18), the detector (R19 to R25), the service states
(R27 to R30) and the adoption of settings (R32 to R34). -/

namespace Sys2Proof.Machine

/-! ## Service changes of one unit -/

/-- The detector abandoned and set to QUIET: no attempt in hand, HELD left (R27, R36). -/
def ChannelUnit.quieten (u : ChannelUnit) : ChannelUnit := { u with detector := .quiet }

/-- The unit goes to FAILED; its counts are kept for reporting (R27). -/
def ChannelUnit.fail (u : ChannelUnit) : ChannelUnit := { u with service := .failed, detector := .quiet, lastExcess := 0 }

/-- The unit goes to DISABLED; its counts are set to 0 (R27). -/
def ChannelUnit.disable (u : ChannelUnit) : ChannelUnit :=
  { u with service := .disabled, detector := .quiet, lastExcess := 0, overlong := 0, miss := 0 }

/-- The unit becomes ACTIVE with its counts at 0 and seeds on its next sample (R17, R30, R34). -/
def ChannelUnit.activate (u : ChannelUnit) : ChannelUnit :=
  { u with service := .active, detector := .quiet, overlong := 0, miss := 0, seed := true }

/-- The table of R34: what adopting an enable does to the service state. -/
def ChannelUnit.adoptEnable (u : ChannelUnit) (enabled : Bool) : ChannelUnit :=
  match u.service, enabled with
  | .disabled, true => u.activate
  | .disabled, false => u
  | .active, true => u
  | .suspect, true => u
  | .failed, true => u
  | .active, false => u.disable
  | .suspect, false => u.disable
  | .failed, false => u.disable

/-- The unit adopts the settings waiting for it (R33, R34); with none waiting it is unchanged. -/
def ChannelUnit.adopt (u : ChannelUnit) : ChannelUnit :=
  match u.waiting with
  | none => u
  | some w =>
    { u with settings := some w.settings, generation := some w.generation, waiting := none }.adoptEnable w.settings.enabled

/-- Step 6 of R15: a QUIET unit adopts the settings waiting for it. -/
def ChannelUnit.adoptIfQuiet (u : ChannelUnit) : ChannelUnit := if u.detector = .quiet then u.adopt else u

/-- The detector settings of a channel in a set, with the working enable of R32. -/
def TableSet.detector (t : TableSet) (ch : ChannelId) : DetectorSettings :=
  let c := (t.channels.get ch.lane).get ch.strip
  { enabled := c.enabled && (t.lanes.get ch.lane).enabled, k := c.k, m := c.m, thOn := c.thOn, thOff := c.thOff,
    cOn := c.cOn, cOff := c.cOff, wMin := c.wMin, wMax := c.wMax }

/-! ## One sample (R15 to R25) -/

/-- What a sample gives besides the unit's new state. -/
inductive SampleEvent where
  | nothing
  | spike
  | accepted (r : PulseReport)
deriving DecidableEq, Repr

/-- A clipped sample (R16). -/
def isClipped (x : Code) : Bool := x.toInt = -32768 || x.toInt = 32767

/-- The conditioned sample (R16). -/
def smooth (y : Int) (x : Code) (k : Nat) : Int := y + roundInt (x.toInt - y) (2 ^ k)

/-- The excess against a baseline (R18). -/
def excessOf (y b : Int) : Int := y - roundInt b 256

/-- The baseline update (R18). -/
def trackBaseline (b y : Int) (m : Nat) : Int := b + roundInt (256 * y - b) (2 ^ m)

/-- The attempt with one sample accumulated: area grows by the greater of e and 0, saturating (R20, R21). -/
def Attempt.accumulate (a : Attempt) (e : Int) (clipped : Bool) : Attempt :=
  { a with area := min Config.areaCap (a.area + e.toNat), peak := max a.peak e.toNat, clipped := a.clipped || clipped }

/-- The pulse report of an ended attempt (R22, R23): it ended at the first of the c_off closing samples. The width is end − onset
as it stands: with c_off = 1 it can be w_max, one above the range R23 gives (the model's choice, notes/assumptions/31.md). -/
def Attempt.report (a : Attempt) (ch : ChannelId) (t : Tick) (cOff : Nat) : PulseReport :=
  let ended := tickSub t (cOff - 1)
  { channel := ch, onset := a.onset, ended := ended, width := ticksSince ended a.onset, peak := a.peak, area := a.area,
    clipped := a.clipped }

/-- The below-count after a sample with excess e (R21, R25). -/
def nextBelow (cfg : DetectorSettings) (below : Nat) (e : Int) : Nat := if e ≤ cfg.thOff then below + 1 else 0

/-- The detector's transition on a sample with excess e at tick t (table of 2.3), and what comes of it. -/
def detect (cfg : DetectorSettings) (ch : ChannelId) (t : Tick) (e : Int) (clipped : Bool) :
    Detector → Detector × SampleEvent
  | .quiet =>
    if (cfg.thOn : Int) < e then
      let a : Attempt := { onset := t, area := e.toNat, peak := e.toNat, clipped := clipped }
      if cfg.cOn ≤ 1 then (.pulse a 0 false, .nothing) else (.onset a 1, .nothing)
    else (.quiet, .nothing)
  | .onset a above =>
    if (cfg.thOn : Int) < e then
      let a' := a.accumulate e clipped
      if cfg.cOn ≤ above + 1 then (.pulse a' 0 false, .nothing) else (.onset a' (above + 1), .nothing)
    else (.quiet, .spike)
  | .pulse a below _ =>
    let a' := a.accumulate e clipped
    let n := nextBelow cfg below e
    if cfg.cOff ≤ n then
      let r := a'.report ch t cfg.cOff
      (.quiet, if r.width < cfg.wMin then .spike else .accepted r)
    else (.pulse a' n (cfg.wMax ≤ ticksSince t a.onset), .nothing)
  | .held below =>
    let n := nextBelow cfg below e
    if cfg.cOff ≤ n then (.quiet, .nothing) else (.held n, .nothing)

/-- The seeding sample (R17). -/
def ChannelUnit.seedOn (u : ChannelUnit) (x : Code) : ChannelUnit :=
  { u with y := x.toInt, baseline := 256 * x.toInt, detector := .quiet, seed := false, lastExcess := 0 }

/-- A sample of a running unit under its settings, up to step 5 of R15. -/
def ChannelUnit.take (u : ChannelUnit) (cfg : DetectorSettings) (ch : ChannelId) (t : Tick) (x : Code) :
    ChannelUnit × SampleEvent :=
  if u.seed then (u.seedOn x, .nothing)
  else
    let y := smooth u.y x cfg.k
    let e := excessOf y u.baseline
    let (d, event) := detect cfg ch t e (isClipped x) u.detector
    let b := if u.detector = .quiet ∧ d = .quiet then trackBaseline u.baseline y cfg.m else u.baseline
    -- an accepted pulse clears the overlong count, reported or not (R22)
    let overlong := match event with
      | .accepted _ => 0
      | _ => u.overlong
    ({ u with y := y, baseline := b, detector := d, lastExcess := e, overlong := overlong }, event)

/-! ## Overlong pulses (R24) -/

/-- The unit's pulse is marked overdue: PULSE_OVERLONG is to be taken. What ends the attempt before it is taken ends the mark too
(the model's choice, notes/assumptions/13.md). -/
def ChannelUnit.overdue (u : ChannelUnit) : Bool :=
  match u.detector with
  | .pulse _ _ o => o
  | _ => false

/-- The overlong pulse is abandoned and the unit enters HELD; at the second overlong it goes to FAILED (R24). -/
def ChannelUnit.overlongPulse (u : ChannelUnit) : ChannelUnit :=
  let held := { u with detector := .held 0, overlong := min 2 (u.overlong + 1) }
  if 2 ≤ held.overlong then held.fail else held

/-- A channel's overdue pulse is taken as overlong (R24): SERVICE_CHANGE marks the channel at the first overlong and at the
failing second, which leaves the detector QUIET on that sample, so that settings that wait are adopted (step 6 of R15). -/
def State.takeOverlong (s : State) (ch : ChannelId) : State :=
  let u := (s.unit ch).overlongPulse.adoptIfQuiet
  if u.service = (s.unit ch).service then (s.setUnit ch u).raiseChannel ch else s.putUnit ch u

/-- PULSE_OVERLONG (R24). -/
def execPulseOverlong (ch : ChannelId) (s : State) : Host.Outcome State Fault Refusal :=
  .next (if (s.unit ch).overdue then s.takeOverlong ch else s)

/-- A pulse report is on its way to the matcher of an IN_SERVICE lane; an OUT lane's pulse is discarded without a count (R22). -/
def State.sendReport (s : State) (r : PulseReport) : State :=
  match (s.asm r.channel.lane).service with
  | .inService => { s with mail := { s.mail with reports := s.mail.reports ++ [r] } }
  | .out => s

/-- What a sample gave is passed on: a spike to the lane's tally, an accepted pulse to the matcher (R22, R23, R26). -/
def State.sampleEvent (s : State) (ch : ChannelId) : SampleEvent → State
  | .nothing => s
  | .spike => s.countSpike ch.lane
  | .accepted r => s.sendReport r

/-- A sample of a unit that is not overdue: discarded unless the unit is running (R15). -/
def State.takeSample (s : State) (ch : ChannelId) (x : Code) : State :=
  let u := s.unit ch
  match u.settings with
  | none => s
  | some cfg =>
    if u.running then
      let (u', event) := u.take cfg ch s.tb.t x
      (s.sampleEvent ch event).putUnit ch u'.adoptIfQuiet
    else s

/-- CHANNEL_SAMPLE (R15). An overlong pulse still to be taken on the previous sample is taken first (R21, R24). -/
def execChannelSample (ch : ChannelId) (x : Code) (s : State) : Host.Outcome State Fault Refusal :=
  .next ((if (s.unit ch).overdue then s.takeOverlong ch else s).takeSample ch x)

/-- Settings wait that the unit adopts at once: its detector is QUIET, and was when the commit was taken (R33). Settings that
R33 or R30 leaves for a sample are not among them (notes/assumptions/30.md). -/
def ChannelUnit.adoptsAtOnce (u : ChannelUnit) : Bool :=
  decide (u.detector = .quiet) && u.waiting.any WaitingSettings.atOnce

/-- CHANNEL_SETTINGS_WAITING (R33): the settings a commit left waiting for a QUIET detector are adopted at once. -/
def execChannelSettingsWaiting (ch : ChannelId) (s : State) : Host.Outcome State Fault Refusal :=
  .next (if (s.unit ch).adoptsAtOnce then s.putUnit ch (s.unit ch).adopt else s)

/-! ## Supervision (R28, R29) -/

/-- A vehicle is supervised when it has at least 2 axles and its quality is not STRADDLE (R28). -/
def Supervision.supervised (v : Supervision) : Bool := 2 ≤ v.contributed.length && v.quality ≠ .straddle

/-- The number of the vehicle's axles to which a channel contributed. -/
def Supervision.axlesOf (v : Supervision) (ch : ChannelId) : Nat := v.contributed.countP fun l => l.contains ch

/-- The unit's judgement when it contributed: the miss count is cleared and SUSPECT returns to ACTIVE (R29). -/
def ChannelUnit.contribute (u : ChannelUnit) : ChannelUnit :=
  { u with miss := 0, service := if u.service = .suspect then .active else u.service }

/-- The unit's judgement when it missed: the miss count rises, to SUSPECT at 8 and FAILED at 32 (R29). -/
def ChannelUnit.missOne (u : ChannelUnit) : ChannelUnit :=
  let u' := { u with miss := min Config.missFailed (u.miss + 1) }
  if u'.miss = Config.missFailed then u'.fail
  else if u'.miss = Config.missSuspect ∧ u.service = .active then { u' with service := .suspect }
  else u'

/-- One unit of the lane judged on a supervised vehicle (R28, R29). -/
def ChannelUnit.judge (u : ChannelUnit) (v : Supervision) (ch : ChannelId) : ChannelUnit :=
  if !u.running then u
  else if 0 < v.axlesOf ch then u.contribute
  else if 2 ≤ v.axlesOf ⟨ch.lane, partnerStrip ch.strip⟩ then u.missOne
  else u

/-- The four units of a lane judged one after another (R29: they are judged independently). A unit that fails here while its
pulse is marked overdue drops that pulse with its attempt (R27), uncounted and without the notice of R24: the model's choice
(notes/assumptions/13.md). -/
def State.supervise (s : State) (v : Supervision) : State :=
  if v.supervised then
    fours.foldl (fun s p => s.putUnit ⟨v.lane, p⟩ ((s.unit ⟨v.lane, p⟩).judge v ⟨v.lane, p⟩)) s
  else s

/-- CHANNEL_SUPERVISION (R28): the oldest undelivered closed vehicle reaches the four units of its lane. -/
def execChannelSupervision (s : State) : Host.Outcome State Fault Refusal :=
  .next (match s.mail.toUnits with
    | [] => s
    | v :: rest => State.supervise { s with mail := { s.mail with toUnits := rest } } v)

/-- A FAILED unit is restored; settings that still wait are left for its seeding sample (R30). -/
def ChannelUnit.restore (u : ChannelUnit) : ChannelUnit :=
  { u.activate with waiting := u.waiting.map fun w => { w with atOnce := false } }

/-- CHANNEL_RESTORE (R30). The notice is raised before the reply is queued (the model's choice, notes/assumptions/32.md). -/
def execChannelRestore (tag : Byte) (body : List Byte) (s : State) : Host.Outcome State Fault Refusal :=
  .next (
    if body.length ≠ 1 then s.answer 0x05 tag body [codeBadLength]
    else match channelOfNumber (leNat body) with
      | none => s.answer 0x05 tag body [codeBadValue]
      | some ch =>
        (if (s.unit ch).service = .failed then s.putUnit ch (s.unit ch).restore else s).answer 0x05 tag body [codeOk])

end Sys2Proof.Machine
end

