-- ==== Sys2Proof/Machine/Tables.lean ====
section
/-! DEFINITION. The Table Store (chapter 9): staging (R145 to R148), the commit with its checks (R149 to R153), and the requests
STAGE_OPEN, STAGE_PUT, STAGE_DISCARD, STAGE_COMMIT and TABLE_READ (R155). -/

namespace Sys2Proof.Machine

/-! ## Items of a set -/

/-- The item of an identity in a set: every set holds all 63 (9.1). -/
def TableSet.item (t : TableSet) : ItemId → Item
  | .site => .site t.site
  | .lane n => .lane n (t.lanes.get n)
  | .channel ch => .channel ch ((t.channels.get ch.lane).get ch.strip)
  | .speedTab n => .speedTab n (t.speedTabs.get n)
  | .tempTab => .tempTab t.tempTab
  | .classRule i => .classRule i ((t.classes[i.val]?).join)
  | .drift => .drift t.drift
  | .probe p => .probe p (t.probes.get p)

/-- The set with the item of one identity replaced (R146). -/
def TableSet.put (t : TableSet) : Item → TableSet
  | .site v => { t with site := v }
  | .lane n v => { t with lanes := t.lanes.set n v }
  | .channel ch v => { t with channels := t.channels.set ch.lane ((t.channels.get ch.lane).set ch.strip v) }
  | .speedTab n points => { t with speedTabs := t.speedTabs.set n points }
  | .tempTab factors => { t with tempTab := factors }
  | .classRule i v => { t with classes := t.classes.set i.val v }
  | .drift v => { t with drift := v }
  | .probe p v => { t with probes := t.probes.set p v }

/-! ## Staging (R145 to R148) -/

/-- The state with the given staging, none for CLOSED. -/
def State.setStaging (s : State) (x : Option Staging) : State := { s with tables := { s.tables with staging := x } }

/-- What STAGE_OPEN opens: a copy of the active generation, or the default set (R145). -/
def TableStore.openCopy (t : TableStore) : Staging :=
  match t.active with
  | some g => { set := g.set, source := some g.number }
  | none => { set := TableSet.standard, source := none }

/-- STAGE_OPEN (R145): the reply carries the staging source, 0 for defaults. -/
def execStageOpen (tag : Byte) (body : List Byte) (s : State) : Host.Outcome State Fault Refusal :=
  .next (
    if body.length ≠ 0 then s.answer 0x10 tag body [codeBadLength]
    else match s.tables.staging with
      | some _ => s.answer 0x10 tag body [codeBusy]
      | none =>
        let x := s.tables.openCopy
        (s.setStaging (some x)).answer 0x10 tag body (codeOk :: optZero 2 x.source))

/-- The result of a STAGE_PUT in OPEN: the item that passes both checks of R146, or none for BAD_VALUE. -/
def acceptedItem (id : ItemId) (fields : List Byte) : Option Item :=
  (readItem id fields).bind fun i => if i.ok then some i else none

/-- The body has the length that its item requires (R181): a body too short for its kind, its index or its count byte has
not. A body of an unknown kind or index passes. -/
def stagePutLength (body : List Byte) : Bool :=
  match body with
  | kind :: index :: fields =>
    match itemIdOf kind.toNat index.toNat with
    | none => true
    | some id => fieldsLength id fields = some fields.length
  | _ => false

/-- The item of a STAGE_PUT body of the right length; none when its kind, index or fields are refused (R146). -/
def stagePutItem (body : List Byte) : Option Item :=
  match body with
  | kind :: index :: fields => (itemIdOf kind.toNat index.toNat).bind fun id => acceptedItem id fields
  | _ => none

/-- STAGE_PUT (R146, R147): in OPEN, an item that passes replaces the staged item of its identity. -/
def execStagePut (tag : Byte) (body : List Byte) (s : State) : Host.Outcome State Fault Refusal :=
  .next (
    if !stagePutLength body then s.answer 0x11 tag body [codeBadLength]
    else match s.tables.staging, stagePutItem body with
      | none, _ => s.answer 0x11 tag body [codeNoStage]
      | some _, none => s.answer 0x11 tag body [codeBadValue]
      | some st, some i =>
        (s.setStaging (some { st with set := st.set.put i })).answer 0x11 tag body [codeOk])

/-- STAGE_DISCARD (R148). -/
def execStageDiscard (tag : Byte) (body : List Byte) (s : State) : Host.Outcome State Fault Refusal :=
  .next (
    if body.length ≠ 0 then s.answer 0x12 tag body [codeBadLength]
    else match s.tables.staging with
      | none => s.answer 0x12 tag body [codeNoStage]
      | some _ => (s.setStaging none).answer 0x12 tag body [codeOk])

/-! ## The cross-item checks (R114, R149) -/

/-- What an INVALID_ITEM reply names: the item and the check it failed. -/
structure Failure where
  item : ItemId
  check : Nat
deriving DecidableEq, Repr

/-- Check 1 on one lane: an enabled lane's speed table has fewer than 2 points. -/
def TableSet.check1 (t : TableSet) (n : LaneId) : Option Failure :=
  if (t.lanes.get n).enabled ∧ (t.speedTabs.get n).length < 2 then some { item := .speedTab n, check := 1 } else none

/-- A class rule breaks a relation of R114. -/
def ClassRule.inconsistent (r : ClassRule) : Bool :=
  r.axles.min - 1 < r.spacings.length || r.axles.max < r.axles.min ||
  r.spacings.any (fun b => b.max < b.min) || r.gvw.any fun b => b.max < b.min

/-- Check 2 on one class rule. -/
def TableSet.check2 (t : TableSet) (i : Fin 32) : Option Failure :=
  if ((t.classes[i.val]?).join).any ClassRule.inconsistent then some { item := .classRule i, check := 2 } else none

/-- Check 3: the drift reference class is the code of no rule. -/
def TableSet.check3 (t : TableSet) : Option Failure :=
  if t.drift.refClass ≠ 0 ∧ (t.classes.filterMap id).all (fun r => r.code ≠ t.drift.refClass) then
    some { item := .drift, check := 3 }
  else none

/-- The roles of the probes below a probe. -/
def TableSet.rolesBelow (t : TableSet) (p : ProbeId) : List Role := (t.probes.toList.take p.val).map ProbeItem.role

/-- Check 4 on one probe: a lower-numbered probe is PRIMARY, or ALTERNATE, as this one is. -/
def TableSet.check4 (t : TableSet) (p : ProbeId) : Option Failure :=
  let r := (t.probes.get p).role
  if (r = .primary ∨ r = .alternate) ∧ r ∈ t.rolesBelow p then some { item := .probe p, check := 4 } else none

/-- Check 5 on one probe: a role and fewer than 2 points. -/
def TableSet.check5 (t : TableSet) (p : ProbeId) : Option Failure :=
  if (t.probes.get p).role ≠ .none ∧ (t.probes.get p).points.length < 2 then some { item := .probe p, check := 5 } else none

/-- The 32 class indices in order. -/
def classIndices : List (Fin 32) := List.finRange 32

/-- The first item that fails, check by check and in index order (R149). -/
def TableSet.firstFailure (t : TableSet) : Option Failure :=
  (fours.findSome? t.check1).or <| (classIndices.findSome? t.check2).or <| t.check3.or <|
    (fours.findSome? t.check4).or (fours.findSome? t.check5)

/-! ## The commit (R150 to R153) -/

/-- The number of the next generation (R151). -/
def nextGeneration (counter : Nat) : Nat := if 65535 ≤ counter then 1 else counter + 1

/-- A set made a generation: its number, and its speed tables in mm/s (R100, R150). -/
def TableSet.generation (t : TableSet) (number : Nat) : Generation :=
  { number := number, set := t, speedMm := t.speedTabs.map fun points => points.map fun p => (kmhToMm p.1, p.2) }

/-- A unit receives the settings of a generation as waiting, to be adopted at once when its detector is QUIET (R33). -/
def ChannelUnit.receive (u : ChannelUnit) (g : Generation) (ch : ChannelId) : ChannelUnit :=
  { u with
    waiting := some { generation := g.number, settings := g.set.detector ch, atOnce := decide (u.detector = .quiet) } }

/-- A lane whose four units have received the settings of a generation. -/
def Lane.receive (l : Lane) (g : Generation) (ln : LaneId) : Lane :=
  { l with units :=
      { a := l.units.a.receive g ⟨ln, 0⟩, b := l.units.b.receive g ⟨ln, 1⟩
        c := l.units.c.receive g ⟨ln, 2⟩, d := l.units.d.receive g ⟨ln, 3⟩ } }

/-- The sixteen units have received the settings of a generation. -/
def receiveAll (lanes : Four Lane) (g : Generation) : Four Lane :=
  { a := lanes.a.receive g 0, b := lanes.b.receive g 1, c := lanes.c.receive g 2, d := lanes.d.receive g 3 }

/-- The offers of a generation to the blocks that take it as events of their own (R152). -/
def Mail.offer (m : Mail) (set : TableSet) (reset : Bool) : Mail :=
  { m with
    tempOffers := m.tempOffers ++ [set]
    driftOffers := m.driftOffers ++ [{ policy := set.drift, reset := reset }]
    siteOffers := m.siteOffers ++ [set.site] }

/-- A successful commit up to the lanes (R150): the staging set becomes the active generation, the active one before it the
previous, which stands in the retiring place, and the blocks receive what is theirs. -/
def State.promote (s : State) (set : TableSet) (reset : Bool) : State :=
  let n := nextGeneration s.tables.counter
  let g := set.generation n
  { s with
    tables := { staging := none, active := some g, retiring := s.tables.active, counter := n }
    lanes := receiveAll s.lanes g
    mail := s.mail.offer set reset }

/-- A successful commit (R150, R153): the quiet lanes adopt, and the previous generation is freed when no lane holds it. -/
def State.commit (s : State) (set : TableSet) (reset : Bool) : State := (s.promote set reset).settle.freeRetiring

/-- The flags of STAGE_COMMIT: the drift-reset flag; none when an undefined bit is set (R149). -/
def commitFlags (body : List Byte) : Option Bool := flagOf (leNat body)

/-- STAGE_COMMIT (R149, R150): the reply carries the new generation's number and the retiring one's. The notices of the lanes that
adopt are raised before the reply is queued (the model's choice, notes/assumptions/32.md). -/
def execStageCommit (tag : Byte) (body : List Byte) (s : State) : Host.Outcome State Fault Refusal :=
  .next (
    if body.length ≠ 1 then s.answer 0x13 tag body [codeBadLength]
    else match commitFlags body, s.tables.staging with
      | none, _ => s.answer 0x13 tag body [codeBadValue]
      | some _, none => s.answer 0x13 tag body [codeNoStage]
      | some reset, some st =>
        if s.tables.retiring.isSome then s.answer 0x13 tag body [codeBusy]
        else match st.set.firstFailure with
          | some f =>
            s.answer 0x13 tag body
              [codeInvalidItem, BitVec.ofNat 8 f.item.codes.1, BitVec.ofNat 8 f.item.codes.2, BitVec.ofNat 8 f.check]
          | none =>
            let s' := s.commit st.set reset
            s'.answer 0x13 tag body
              (codeOk :: (optZero 2 (s'.tables.active.map Generation.number) ++
                optZero 2 (s'.tables.retiring.map Generation.number))))

/-- TABLE_READ (R155): body kind, index; the item of the active generation as it was committed. -/
def execTableRead (tag : Byte) (body : List Byte) (s : State) : Host.Outcome State Fault Refusal :=
  .next (s.answer 0x14 tag body
    (if body.length ≠ 2 then [codeBadLength]
    else match itemIdOf (field body 0 1) (field body 1 1), s.tables.active with
      | none, _ => [codeBadValue]
      | some _, none => [codeNotFound]
      | some id, some g => codeOk :: (g.set.item id).bytes))

end Sys2Proof.Machine
end

