-- ==== Sys2Proof/Machine/System.lean ====
section
/-! DEFINITION. The two starts: power-on (R14 and the start tables of every chapter) and the RESTART request (R184). -/

namespace Sys2Proof.Machine

/-- The line rate the straps select (R179). -/
def strapRate (rate1 rate0 : Bool) : LineRate :=
  match rate1, rate0 with
  | false, false => .r115200
  | false, true => .r230400
  | true, false => .r460800
  | true, true => .r921600

/-- POWER_ON: every block takes its start values, and the line the rate of the straps (R14, R36, R54, R73, R93, R144, R158,
R172, R178, R179, R184). -/
def execPowerOn (rate1 rate0 : Bool) (s : State) : Host.Outcome State Fault Refusal :=
  .next { State.reset with pending := s.pending, link := Link.start (strapRate rate1 rate0) }

/-- A unit at a restart, before it adopts settings that wait (R36). -/
def ChannelUnit.restart (u : ChannelUnit) : ChannelUnit :=
  { u.quieten with overlong := 0, miss := 0, seed := true }

/-- The sixteen units at a restart: each is set as R36 gives and then adopts the settings waiting for it. A pulse still marked
overdue is abandoned like any other attempt, uncounted and without the notice of R24, and its unit does not fail by it: the
model's choice (notes/assumptions/13.md). -/
def State.restartUnits (s : State) : State :=
  allChannels.foldl (fun s ch => s.putUnit ch (s.unit ch).restart.adopt) s

/-- A matcher at a restart (R54). -/
def Matcher.restart (m : Matcher) : Matcher := { m with list1 := [], list2 := [], queue := [], mark := none }

/-- A lane at a restart: the matcher emptied and an open vehicle discarded (R54, R94). -/
def Lane.restart (l : Lane) : Lane := { l with matcher := l.matcher.restart, asm := { l.asm with context := none } }

/-- The measurement blocks at a restart up to the lanes' adoption: pulses on their way to the matchers are lost with what the
matchers hold, and what waits behind a record on its way to the Capture Unit is dropped: an open with the vehicle it opened, and a
lane gone OUT, which the unit, IDLE after a restart, need not learn (R36, R54, R94, R178). -/
def State.discardTraffic (s : State) : State :=
  { s with
    lanes := s.lanes.map Lane.restart
    mail := { s.mail with reports := [], toCapture := s.mail.toCapture.map CaptureDelivery.alone } }

/-- The effects of RESTART in the blocks, complete before its reply (R184): R36, R54, R60, R94, R157, R172 and R178. -/
def State.restartBlocks (s : State) : State :=
  let emptied := { s.restartUnits.discardTraffic.restartGate.setStaging none with capture := CaptureUnit.start }
  (fours.foldl State.adopt emptied).freeRetiring.reopenTallies

/-- RESTART (R184): the reply, OK, follows the effects, and STARTED with cause RESTART follows the reply. -/
def execRestart (tag : Byte) (body : List Byte) (s : State) : Host.Outcome State Fault Refusal :=
  .next (
    if body.length ≠ 0 then s.answer 0x04 tag body [codeBadLength]
    else (s.restartBlocks.answer 0x04 tag body [codeOk]).raise (.started false true))

end Sys2Proof.Machine
end

