-- ==== Sys2Proof/Machine/Timebase.lean ====
section
/-! DEFINITION. The Sample Timebase and the site clock (chapter 1): the reference edge (R2 to R5), the silence (R6), the
free-running boundary (R8), the realignment (R9) and TIME_SET (R10). -/

namespace Sys2Proof.Machine

/-- A second boundary (R8): S has advanced by one, and the Tally Unit examines it. -/
def State.secondBoundary (s : State) : State :=
  State.examineInterval { s with tb := { s.tb with seconds := s.tb.seconds + 1 } }

/-- The site clock is realigned on the edge of this tick (R9), with the mark and N_ref in force before it. -/
def State.realign (s : State) : State :=
  let moved := { s with tb := { s.tb with mark := s.tb.t } }
  if 2 * ticksSince s.tb.t s.tb.mark < s.tb.nRef then moved else moved.secondBoundary

/-- The measured interval is a candidate (R2). -/
def isCandidate (n : Nat) : Bool := within Config.candidateMin Config.candidateMax n

/-- A rejected edge is counted (R13). -/
def State.countRejected (s : State) : State :=
  { s with tb := { s.tb with rejectedEdges := countUp s.tb.rejectedEdges } }

/-- The lock state changes; both runs are empty (R3, R5, R6), and SERVICE_CHANGE is raised (R13). -/
def State.enterLock (s : State) (l : LockState) : State :=
  State.raiseTimebase { s with tb := { s.tb with lock := l, run := [], rejectRun := 0 } }

/-- The re-lock count after a lock: FREE to LOCKED counts (R13). -/
def Timebase.relocksAfter (tb : Timebase) : Nat := if tb.lock = .free then countUp tb.relocks else tb.relocks

/-- The timebase locks on a full candidate run (R3): realigned with the old N_ref, which then becomes the run's mean. -/
def State.lockOn (s : State) (run : List Nat) : State :=
  let aligned := s.realign.setNRef (roundNat run.sum Config.runLength)
  State.enterLock { aligned with tb := { aligned.tb with relocks := s.tb.relocksAfter } } .locked

/-- The candidate run with a candidate interval joined: it continues the run when it lies within the tolerance of the last
member, and otherwise starts a new one (R3). -/
def joinRun (run : List Nat) (n : Nat) : List Nat :=
  match run.getLast? with
  | none => [n]
  | some last => if distNat n last ≤ Config.edgeTolerance then run ++ [n] else [n]

/-- A measured edge in UNLOCKED or FREE (R3). -/
def State.searchEdge (s : State) (n : Nat) : State :=
  if isCandidate n then
    if (joinRun s.tb.run n).length = Config.runLength then s.lockOn (joinRun s.tb.run n)
    else { s with tb := { s.tb with run := joinRun s.tb.run n } }
  else State.countRejected { s with tb := { s.tb with run := [] } }

/-- An accepted edge in LOCKED (R4). -/
def State.acceptEdge (s : State) (n : Nat) : State :=
  let s' := s.realign.setNRef n
  { s' with tb := { s'.tb with rejectRun := 0 } }

/-- A rejected edge in LOCKED (R5). -/
def State.rejectEdge (s : State) : State :=
  let s' := s.countRejected
  if Config.rejectLimit ≤ s.tb.rejectRun + 1 then s'.enterLock .unlocked
  else { s' with tb := { s'.tb with rejectRun := s.tb.rejectRun + 1 } }

/-- The state with a registered edge noted: Tlast is the present tick, and the measured interval, if there is one, the last
interval (R2). -/
def State.noteEdge (s : State) (n : Option Nat) : State :=
  { s with tb := { s.tb with tLast := some s.tb.t, lastInterval := n.or s.tb.lastInterval } }

/-- A measured edge judged according to the lock state (R3 to R5). -/
def State.judgeEdge (s : State) (n : Nat) : State :=
  match s.tb.lock with
  | .unlocked => s.searchEdge n
  | .free => s.searchEdge n
  | .locked => if isCandidate n && distNat n s.tb.nRef ≤ Config.edgeTolerance then s.acceptEdge n else s.rejectEdge

/-- A registered edge at the present tick (R2). The first edge measures nothing. -/
def State.registerEdge (s : State) : State :=
  match s.tb.tLast with
  | none => s.noteEdge none
  | some past => (s.noteEdge (some (ticksSince s.tb.t past))).judgeEdge (ticksSince s.tb.t past)

/-- REF_EDGE (R1, R2): REFPULSE sampled on this tick. A high sample after a low one registers a reference edge. -/
def execRefEdge (level : Bool) (s : State) : Host.Outcome State Fault Refusal :=
  let sampled := { s with tb := { s.tb with refHigh := level } }
  .next (if level && !s.tb.refHigh then sampled.registerEdge else sampled)

/-- The silence of R6 is due: LOCKED with T − Tlast at 15 000 or more. -/
def State.silenceDue (s : State) : Bool :=
  s.tb.lock = .locked && s.tb.tLast.any fun past => Config.silenceLimit ≤ ticksSince s.tb.t past

/-- TIMEBASE_SILENCE (R6). -/
def execTimebaseSilence (s : State) : Host.Outcome State Fault Refusal :=
  .next (if s.silenceDue then s.enterLock .free else s)

/-- A free-running boundary is due: T − mark has reached N_ref (R8). -/
def State.boundaryDue (s : State) : Bool := s.tb.nRef ≤ ticksSince s.tb.t s.tb.mark

/-- FREE_RUNNING_BOUNDARY (R8): mark advances by N_ref and S by one, a second boundary. -/
def execFreeRunningBoundary (s : State) : Host.Outcome State Fault Refusal :=
  .next (
    if s.boundaryDue then
      State.secondBoundary { s with tb := { s.tb with mark := tickAdd s.tb.mark s.tb.nRef } }
    else s)

/-- TIME_SET (R10): S becomes the given value at once, without a second boundary. -/
def execTimeSet (tag : Byte) (body : List Byte) (s : State) : Host.Outcome State Fault Refusal :=
  .next (
    if body.length ≠ 4 then s.answer 0x03 tag body [codeBadLength]
    else { s with tb := { s.tb with seconds := BitVec.ofNat 32 (leNat body) } }.answer 0x03 tag body [codeOk])

end Sys2Proof.Machine
end

