-- ==== Sys2Proof/Machine/Dispatch.lean ====
section
/-! DEFINITION. The meaning of every command: one arm per row of the opcode table. -/

namespace Sys2Proof.Machine

def exec (i : Instr) (s : State) : Host.Outcome State Fault Refusal :=
  match i with
  | .powerOn rate1 rate0 => Sys2Proof.Machine.execPowerOn rate1 rate0 s
  | .channelSample ch x => Sys2Proof.Machine.execChannelSample ch x s
  | .pulseOverlong ch => Sys2Proof.Machine.execPulseOverlong ch s
  | .channelSettingsWaiting ch => Sys2Proof.Machine.execChannelSettingsWaiting ch s
  | .channelSupervision => Sys2Proof.Machine.execChannelSupervision s
  | .refEdge level => Sys2Proof.Machine.execRefEdge level s
  | .timebaseSilence => Sys2Proof.Machine.execTimebaseSilence s
  | .freeRunningBoundary => Sys2Proof.Machine.execFreeRunningBoundary s
  | .pulseReport => Sys2Proof.Machine.execPulseReport s
  | .holdExpiry ch => Sys2Proof.Machine.execHoldExpiry ch s
  | .pendingExpiry ln => Sys2Proof.Machine.execPendingExpiry ln s
  | .deliveryMarkLapse ln => Sys2Proof.Machine.execDeliveryMarkLapse ln s
  | .presenceSample ln level => Sys2Proof.Machine.execPresenceSample ln level s
  | .gapWithLoop ln => Sys2Proof.Machine.execGapWithLoop ln s
  | .gapWithoutLoop ln => Sys2Proof.Machine.execGapWithoutLoop ln s
  | .timeout ln => Sys2Proof.Machine.execTimeout ln s
  | .recordStoreDelivery => Sys2Proof.Machine.execRecordStoreDelivery s
  | .tallyRecord => Sys2Proof.Machine.execTallyRecord s
  | .tallyDrop => Sys2Proof.Machine.execTallyDrop s
  | .driftFeed => Sys2Proof.Machine.execDriftFeed s
  | .captureCloseTest => Sys2Proof.Machine.execCaptureCloseTest s
  | .captureWrite => Sys2Proof.Machine.execCaptureWrite s
  | .gateEnd => Sys2Proof.Machine.execGateEnd s
  | .probeSettingsTake => Sys2Proof.Machine.execProbeSettingsTake s
  | .driftPolicyTake => Sys2Proof.Machine.execDriftPolicyTake s
  | .siteSettingsTake => Sys2Proof.Machine.execSiteSettingsTake s
  | .inboundByte byte stopFault => Sys2Proof.Machine.execInboundByte byte stopFault s
  | .frameGapExpiry => Sys2Proof.Machine.execFrameGapExpiry s
  | .transmitEnd => Sys2Proof.Machine.execTransmitEnd s
  | .unknownRequest kind tag body => Sys2Proof.Machine.execUnknownRequest kind tag body s
  | .status tag body => Sys2Proof.Machine.execStatus tag body s
  | .liveRead tag body => Sys2Proof.Machine.execLiveRead tag body s
  | .timeSet tag body => Sys2Proof.Machine.execTimeSet tag body s
  | .restart tag body => Sys2Proof.Machine.execRestart tag body s
  | .channelRestore tag body => Sys2Proof.Machine.execChannelRestore tag body s
  | .probeRestore tag body => Sys2Proof.Machine.execProbeRestore tag body s
  | .stageOpen tag body => Sys2Proof.Machine.execStageOpen tag body s
  | .stagePut tag body => Sys2Proof.Machine.execStagePut tag body s
  | .stageDiscard tag body => Sys2Proof.Machine.execStageDiscard tag body s
  | .stageCommit tag body => Sys2Proof.Machine.execStageCommit tag body s
  | .tableRead tag body => Sys2Proof.Machine.execTableRead tag body s
  | .driftGet tag body => Sys2Proof.Machine.execDriftGet tag body s
  | .driftSet tag body => Sys2Proof.Machine.execDriftSet tag body s
  | .driftFreeze tag body => Sys2Proof.Machine.execDriftFreeze tag body s
  | .recordFetch tag body => Sys2Proof.Machine.execRecordFetch tag body s
  | .recordRelease tag body => Sys2Proof.Machine.execRecordRelease tag body s
  | .tallyFetch tag body => Sys2Proof.Machine.execTallyFetch tag body s
  | .tallyRelease tag body => Sys2Proof.Machine.execTallyRelease tag body s
  | .captureArm tag body => Sys2Proof.Machine.execCaptureArm tag body s
  | .captureFetch tag body => Sys2Proof.Machine.execCaptureFetch tag body s
  | .captureRelease tag body => Sys2Proof.Machine.execCaptureRelease tag body s
  | .probeEdge p => Sys2Proof.Machine.execProbeEdge p s

end Sys2Proof.Machine
end

