-- ==== Sys2Proof/Machine/Schedule.lean ====
section
/-! DEFINITION. What the device does of its own accord when no command waits: the next event of its own blocks that is due,
or, with none due, the beginning of a transmission or the passing of one tick (notes/assumptions/1.md). -/

namespace Sys2Proof.Machine

/-- A command that is due when a list is not empty. -/
def whenAny {α : Type} (l : List α) (c : Instr) : Option Instr := if l.isEmpty then none else some c

/-- A command that is due when a condition holds. -/
def dueIf (b : Bool) (c : Instr) : Option Instr := if b then some c else none

/-- Deliveries and offers on their way, and what a unit has to take at once (R23, R24, R33, R91, R152, R161). That a
CHANNEL_SUPERVISION comes before a PULSE_OVERLONG of the same tick, and may fail its unit first, is the model's choice
(notes/assumptions/13.md). -/
def State.deliveryDue (s : State) : Option Instr :=
  (whenAny s.mail.reports .pulseReport).or <|
  (whenAny s.mail.toStore .recordStoreDelivery).or <|
  (whenAny s.mail.drops .tallyDrop).or <|
  (whenAny s.mail.toTally .tallyRecord).or <|
  (whenAny s.mail.toDrift .driftFeed).or <|
  (whenAny s.mail.toCapture .captureCloseTest).or <|
  (whenAny s.mail.toUnits .channelSupervision).or <|
  (whenAny s.mail.tempOffers .probeSettingsTake).or <|
  (whenAny s.mail.driftOffers .driftPolicyTake).or <|
  (whenAny s.mail.siteOffers .siteSettingsTake).or <|
  (allChannels.findSome? fun ch => dueIf (s.unit ch).overdue (.pulseOverlong ch)).or <|
  allChannels.findSome? fun ch =>
    dueIf (s.unit ch).adoptsAtOnce (.channelSettingsWaiting ch)

/-- Events due on this tick by the time that has passed (R6, R8, R40, R47, R51, R58, R87 to R89, R180). -/
def State.expiryDue (s : State) : Option Instr :=
  (dueIf s.silenceDue .timebaseSilence).or <|
  (dueIf s.boundaryDue .freeRunningBoundary).or <|
  (dueIf s.gateDue.isSome .gateEnd).or <|
  (dueIf s.frameGapDue .frameGapExpiry).or <|
  (allChannels.findSome? fun ch => dueIf (s.holdDue ch).isSome (.holdExpiry ch)).or <|
  (fours.findSome? fun ln => dueIf (s.pendingDue ln).isSome (.pendingExpiry ln)).or <|
  (fours.findSome? fun ln => dueIf (s.markDue ln) (.deliveryMarkLapse ln)).or <|
  (fours.findSome? fun ln => dueIf (s.gapDue ln true).isSome (.gapWithLoop ln)).or <|
  (fours.findSome? fun ln => dueIf (s.gapDue ln false).isSome (.gapWithoutLoop ln)).or <|
  fours.findSome? fun ln => dueIf (s.timeoutDue ln).isSome (.timeout ln)

/-- The oldest request that has not been served (R181). -/
def State.requestDue (s : State) : Option Instr :=
  (s.link.requests.find? fun r => !r.served).map fun r => decodeRequest r.kind r.tag r.body

/-- The event the device takes next of its own accord. -/
def State.nextDue (s : State) : Option Instr :=
  s.deliveryDue.or <| s.expiryDue.or <| s.requestDue.or <| dueIf s.writeDue .captureWrite

/-- The device with nothing due: the waiting frame begins on an idle line (R182), or T advances by one (R1). -/
def State.idle (s : State) : State :=
  if s.link.sending.isNone ∧ s.link.outgoing ≠ [] then s.setLink s.link.beginNext
  else { s with tb := { s.tb with t := s.tb.t + 1 } }

end Sys2Proof.Machine
end

