-- ==== Sys2Proof/WellFormed.lean ====
section
/-! DEFINITION. The commands that can occur: a request command comes from a frame, whose body is at most 1 024 bytes long
(R180), and UNKNOWN_REQUEST from one whose kind is a request kind that names no request (R180, R181). -/

namespace Sys2Proof

/-- A body fits a frame (R180). -/
def bodyFits (body : List Byte) : Bool := body.length ≤ Config.bodyMax

/-- A command that the device's inputs, its blocks or its link can give. -/
def Instr.wellFormed : Instr → Bool
  | .unknownRequest kind tag body =>
    bodyFits body && kind.toNat < 0x80 && decodeRequest kind tag body = .unknownRequest kind tag body
  | .status _ body => bodyFits body
  | .liveRead _ body => bodyFits body
  | .timeSet _ body => bodyFits body
  | .restart _ body => bodyFits body
  | .channelRestore _ body => bodyFits body
  | .probeRestore _ body => bodyFits body
  | .stageOpen _ body => bodyFits body
  | .stagePut _ body => bodyFits body
  | .stageDiscard _ body => bodyFits body
  | .stageCommit _ body => bodyFits body
  | .tableRead _ body => bodyFits body
  | .driftGet _ body => bodyFits body
  | .driftSet _ body => bodyFits body
  | .driftFreeze _ body => bodyFits body
  | .recordFetch _ body => bodyFits body
  | .recordRelease _ body => bodyFits body
  | .tallyFetch _ body => bodyFits body
  | .tallyRelease _ body => bodyFits body
  | .captureArm _ body => bodyFits body
  | .captureFetch _ body => bodyFits body
  | .captureRelease _ body => bodyFits body
  | .powerOn _ _ => true
  | .channelSample _ _ => true
  | .pulseOverlong _ => true
  | .channelSettingsWaiting _ => true
  | .channelSupervision => true
  | .refEdge _ => true
  | .timebaseSilence => true
  | .freeRunningBoundary => true
  | .pulseReport => true
  | .holdExpiry _ => true
  | .pendingExpiry _ => true
  | .deliveryMarkLapse _ => true
  | .presenceSample _ _ => true
  | .gapWithLoop _ => true
  | .gapWithoutLoop _ => true
  | .timeout _ => true
  | .recordStoreDelivery => true
  | .tallyRecord => true
  | .tallyDrop => true
  | .driftFeed => true
  | .captureCloseTest => true
  | .captureWrite => true
  | .gateEnd => true
  | .probeSettingsTake => true
  | .driftPolicyTake => true
  | .siteSettingsTake => true
  | .inboundByte _ _ => true
  | .frameGapExpiry => true
  | .transmitEnd => true
  | .probeEdge _ => true

end Sys2Proof
end

