-- ==== Sys2Proof/Safety.lean ====
section
/-! DEFINITION. What claims about the device are stated in: how a reply reaches the link, what a request with a bad length does,
and the invariants that every step keeps. -/

namespace Sys2Proof.Machine

/-! ## Notices and second boundaries (R9, R44, R169, R182) -/

/-- The frames waiting after one notice is raised, the rest of the link as it was (R182). -/
def Link.raised (l : Link) (n : Notice) : Link := { l with outgoing := raiseIn l.outgoing n }

/-- SERVICE_CHANGE with one channel marked. -/
def channelChange (ch : ChannelId) : Notice :=
  .serviceChange { ChangeSet.none with channels := BitVec.twoPow 16 (channelNumber ch - 1) }

/-- SERVICE_CHANGE with one probe marked. -/
def probeChange (p : ProbeId) : Notice := .serviceChange { ChangeSet.none with probes := BitVec.twoPow 8 p.val }

/-- SERVICE_CHANGE with one lane marked. -/
def laneChange (ln : LaneId) : Notice := .serviceChange { ChangeSet.none with lanes := BitVec.twoPow 8 ln.val }

/-- SERVICE_CHANGE with the timebase marked. -/
def timebaseChange : Notice := .serviceChange { ChangeSet.none with timebase := true }

/-- What the examination of S at a second boundary makes of the Tally Unit and of the link (R169): at a multiple of the interval
the entry joins and the tallies reopen, or with a full queue the interval is extended. -/
def IntervalExamined (s : State) (seconds : Seconds) (tally : TallyUnit) (link : Link) : Prop :=
  if seconds.toNat % (s.tally.interval * 60) = 0 then
    if s.tally.queue.length < 4 then
      tally = { s.tally with
        active := Four.fill (Tally.opened s.temp.tw), openedAt := seconds, extension := 0
        queue := s.tally.queue ++
          [{ start := s.tally.openedAt, finish := seconds, extension := s.tally.extension,
             probes := s.temp.probes.map Probe.smoothed, lanes := s.tally.active }] } ∧
      link = s.link.raised (.tallyClosed (s.tally.queue.length + 1))
    else tally = { s.tally with extension := min 65535 (s.tally.extension + 1) } ∧ link = s.link
  else tally = s.tally ∧ link = s.link

/-- What a realignment on the edge of this tick makes of S, the Tally Unit and the link (R9). -/
def Realigned (s : State) (seconds : Seconds) (tally : TallyUnit) (link : Link) : Prop :=
  if 2 * ticksSince s.tb.t s.tb.mark < s.tb.nRef then seconds = s.tb.seconds ∧ tally = s.tally ∧ link = s.link
  else seconds = s.tb.seconds + 1 ∧ IntervalExamined s (s.tb.seconds + 1) tally link

/-- The lanes of t are those of s with their windows recomputed for N_ref = n where it has changed; an OUT lane keeps its
windows (R44, R53, notes/assumptions/9.md). -/
def WindowsFollow (s t : State) (n : Nat) : Prop :=
  ∀ ln, t.lanes.get ln =
    if n = s.tb.nRef ∨ (s.asm ln).service = .out then s.lanes.get ln
    else { s.lanes.get ln with matcher :=
      { s.matcher ln with windows := (s.asm ln).working.map fun w => windowsOf w n } }

/-- t is s with one channel's unit become u, and the notices that raises: the channel is marked when its service state changes
(R31), and its lane too when the lane's reported state changes with it (R74). -/
def UnitBecomes (s t : State) (ch : ChannelId) (u : ChannelUnit) : Prop :=
  t = { s.setUnit ch u with link := t.link } ∧
  t.link =
    if u.service = (s.unit ch).service then s.link
    else if (t.lanes.get ch.lane).reported = (s.lanes.get ch.lane).reported then s.link.raised (channelChange ch)
    else (s.link.raised (channelChange ch)).raised (laneChange ch.lane)

/-- A lane of s whose first n half-strips hold the units they have in t. -/
def laneUpTo (s t : State) (ln : LaneId) (n : Nat) : Lane :=
  let unitOf : Strip → ChannelUnit := fun p => if p.val < n then t.unit ⟨ln, p⟩ else s.unit ⟨ln, p⟩
  { s.lanes.get ln with units := { a := unitOf 0, b := unitOf 1, c := unitOf 2, d := unitOf 3 } }

/-- The link of s after the units of some channels have become those of t, one after another: each whose service state changes is
marked (R31), and its lane too when the lane's reported state changes with it (R74). -/
def unitNotices (s t : State) (channels : List ChannelId) : Link :=
  channels.foldl (fun l ch =>
    if (t.unit ch).service = (s.unit ch).service then l
    else if (laneUpTo s t ch.lane (ch.strip.val + 1)).reported = (laneUpTo s t ch.lane ch.strip.val).reported then
      l.raised (channelChange ch)
    else (l.raised (channelChange ch)).raised (laneChange ch.lane)) s.link

/-- A QUIET unit after it has adopted the settings that wait for it, if any do (R33): the number and the settings are the new
ones, and their enable acts by the table of R34. -/
def settled (u : ChannelUnit) : ChannelUnit :=
  match u.waiting with
  | none => u
  | some w =>
    let v := { u with settings := some w.settings, generation := some w.generation, waiting := none }
    if w.settings.enabled then
      if u.service = .disabled then { v with service := .active, overlong := 0, miss := 0, seed := true } else v
    else if u.service = .disabled then v
    else { v with service := .disabled, lastExcess := 0, overlong := 0, miss := 0 }

/-! ## The weighing temperature and the gates (R58, R68, R168) -/

/-- The selection, T_w and the held mark of v are those that its probes give after u (R68): the lowest-numbered GOOD or SUSPECT
PRIMARY probe, else the lowest-numbered such ALTERNATE, gives T_w with the mark clear; with none T_w is kept with the mark set. -/
def Reselected (u v : TempUnit) : Prop :=
  let serves : Role → ProbeId → Prop := fun r p =>
    (v.probes.get p).role = r ∧ ((v.probes.get p).state = .good ∨ (v.probes.get p).state = .suspect)
  let named : Selection → ProbeId → Prop := fun sel p =>
    v.selection = sel ∧ v.held = false ∧ v.tw = ((v.probes.get p).smoothed).getD u.tw
  (∀ p, serves .primary p → (∀ q < p, ¬ serves .primary q) → named .primary p) ∧
  ((∀ p, ¬ serves .primary p) → ∀ p, serves .alternate p → (∀ q < p, ¬ serves .alternate q) → named .alternate p) ∧
  ((∀ p, ¬ serves .primary p ∧ ¬ serves .alternate p) → v.selection = .none ∧ v.held = true ∧ v.tw = u.tw)

/-- The Tally Unit of t is that of s after T_w has become t's (R168). -/
def TallySeesTw (s t : State) : Prop :=
  t.tally = if t.temp.tw = s.temp.tw then s.tally
    else { s.tally with active := s.tally.active.map fun x =>
      { x with twMin := min x.twMin t.temp.tw, twMax := max x.twMax t.temp.tw, twLast := t.temp.tw } }

/-- The gate of t is one started on its tick for the first probe of an order that has a role, with the G in force; none when
no probe of the order has one (R58). -/
def GateStarts (t : State) (order : List ProbeId) : Prop :=
  t.temp.gate = (order.find? fun p => (t.probe p).role ≠ .none).map fun p =>
    { probe := p, start := t.tb.t, length := t.temp.gateLength, base := (t.probe p).edges }

/-- The probes after p in the order 1, 2, 3, 4, 1, …, p itself last (R58). -/
def turnsFrom (p : ProbeId) : List ProbeId := [p + 1, p + 2, p + 3, p]

/-! ## The start of a capture (R175) -/

/-- t is s with its Capture Unit in RECORDING from the set that R175 gives for a target tick: the held set nearest to it, the
earlier of two equally near; the oldest, truncated, when the target lies before it; none, truncated, when no set is held. -/
def CaptureStarts (s t : State) (target : Tick) : Prop :=
  let recording : Option Tick → Bool → State := fun start cut => { s with capture := { s.capture with
    state := .recording, startTick := start, truncated := cut || s.capture.truncated } }
  (s.capture.buffer = [] → t = recording none true) ∧
  ∀ oldest sets, s.capture.buffer = oldest :: sets →
    (tickBefore target oldest.tick = true → t = recording (some oldest.tick) true) ∧
    (tickBefore target oldest.tick = false → ∀ before x after, s.capture.buffer = before ++ x :: after →
      (∀ y ∈ before, tickDist x.tick target < tickDist y.tick target) →
      (∀ y ∈ after, tickDist x.tick target ≤ tickDist y.tick target) →
      t = recording (some x.tick) false)

/-- The Capture Unit right after power-on, a release, and the loss of its lane (R177, R178). -/
def captureEmpty : CaptureUnit :=
  { state := .idle, lane := none, d := none, trigger := none, buffer := [], startTick := none, truncated := false
    description := none, nextWrite := 0 }

/-- From s to t the Capture Unit is told that a lane has gone OUT (R76, R178): a unit that is neither ARMED nor RECORDING for it is
left alone; with no record of the lane on its way the unit is IDLE and empty; otherwise that the lane went OUT waits behind the
lane's last record on its way (notes/assumptions/35.md). -/
def CaptureToldOut (s t : State) (ln : LaneId) : Prop :=
  let concerned := (s.capture.state = .armed ∨ s.capture.state = .recording) ∧ s.capture.lane = some ln
  (¬ concerned → t.capture = s.capture ∧ t.mail.toCapture = s.mail.toCapture) ∧
  (concerned → (∀ d ∈ s.mail.toCapture, d.record.lane ≠ ln) →
    t.capture = captureEmpty ∧ t.mail.toCapture = s.mail.toCapture) ∧
  ∀ before d after, concerned → s.mail.toCapture = before ++ d :: after → d.record.lane = ln →
    (∀ e ∈ after, e.record.lane ≠ ln) →
    t.capture = s.capture ∧ t.mail.toCapture = before ++ { d with laneOut := true } :: after

/-! ## Adoption and closing (R75, R82, R90, R91, R160) -/

/-- The state after each of the four lanes, lowest number first, has adopted where it is quiet (R75, notes/assumptions/24.md). -/
def lanesAdopt (s : State) : State := (((s.adoptIfQuiet 0).adoptIfQuiet 1).adoptIfQuiet 2).adoptIfQuiet 3

/-- The state between the close and the open of a split: the lane adopts where it is quiet, but not an active generation that
disables it (notes/assumptions/7.md). -/
def splitAdopts (s : State) (ln : LaneId) : State :=
  match s.tables.active with
  | none => s
  | some g => if (g.set.lanes.get ln).enabled then s.adoptIfQuiet ln else s

/-- The state after a lane's vehicle has closed and before any lane adopts: the record is completed with the serial counter's
value and on its way to the five consumers, the counter has moved on, the held speed follows the vehicle's own, and the assembler
is IDLE (R82, R90, R91, R160). -/
def vehicleClosed (s : State) (ln : LaneId) (ctx : Context) (tailgate timeout : Bool) : State :=
  let a := s.asm ln
  let own := ctx.axles.filterMap fun x => x.axle.ownSpeed
  let r := completeRecord s.tb s.store.serial ln ctx tailgate timeout
  { s.setAsm ln { a with
      context := none
      heldSpeed := if own = [] then a.heldSpeed else max 2778 (min 55556 (roundNat own.sum own.length)) } with
    store := { s.store with serial := match s.store.serial with
      | some n => if 281474976710655 ≤ n then none else some (n + 1)
      | none => none }
    mail := { s.mail with
      toStore := s.mail.toStore ++ [r], toTally := s.mail.toTally ++ [r], toDrift := s.mail.toDrift ++ [r]
      toCapture := s.mail.toCapture ++ [{ record := r, opened := none, laneOut := false }]
      toUnits := s.mail.toUnits ++
        [{ lane := ln, quality := r.quality, contributed := ctx.axles.map fun x => x.axle.channels }] } }

/-! ## Layouts on the wire (R185) -/

/-- A signed value in n bytes, as the unsigned field it is sent as. -/
def twos (n : Nat) (v : Int) : Nat := (v % (256 ^ n : Nat)).toNat

/-- At place i stands an optional field of four bytes behind its presence byte. -/
def OptAt (bytes : List Byte) (i : Nat) (v : Option Nat) : Prop :=
  field bytes i 1 = (if v.isSome then 1 else 0) ∧ field bytes (i + 1) 4 = v.getD 0 % 2 ^ 32

/-- The code of an optional yes/no field. -/
def yesNo (v : Option Bool) : Nat := (v.map Bool.toNat).getD 255

/-- At place i stands an axle entry of 11 bytes. -/
def AxleAt (bytes : List Byte) (i : Nat) (e : AxleEntry) : Prop :=
  field bytes i 2 = e.load % 65536 ∧ field bytes (i + 2) 2 = e.left % 65536 ∧ field bytes (i + 4) 2 = e.right % 65536 ∧
  field bytes (i + 6) 2 = e.spacing.getD 65535 % 65536 ∧ field bytes (i + 8) 2 = e.speed.getD 65535 % 65536 ∧
  field bytes (i + 10) 1 =
    (match e.row with | .both => 0 | .row1 => 1 | .row2 => 2) + 4 * e.straddle.toNat +
    8 * (match e.single with | .clear => 0 | .wheelMissed => 1 | .sideOut => 2)

/-- A vehicle record of 34 bytes and its axle entries of 11 bytes each. -/
def RecordLayout (bytes : List Byte) (r : VehicleRecord) : Prop :=
  bytes.length = 34 + 11 * r.axles.length ∧ field bytes 0 6 = r.serial.getD 0 % 2 ^ 48 ∧ field bytes 6 1 = r.lane.val + 1 ∧
  field bytes 7 1 = r.axles.length % 256 ∧ field bytes 8 4 = r.seconds.toNat ∧ field bytes 12 2 = r.subtick % 65536 ∧
  field bytes 14 2 = r.speed.getD 65535 % 65536 ∧ field bytes 16 1 = r.cls % 256 ∧
  field bytes 17 1 = (match r.quality with
    | .good => 0 | .fragment => 1 | .incomplete => 2 | .straddle => 3 | .speedRange => 4 | .acceleration => 5
    | .singleRow => 6 | .rowDisagree => 7 | .offscale => 8 | .split => 9) ∧
  field bytes 18 1 = r.split.toNat + 2 * r.conditions.tempHeld.toNat + 4 * r.conditions.timebaseFree.toNat +
    8 * r.conditions.tailgate.toNat + 16 * r.conditions.timeout.toNat + 32 * r.conditions.captured.toNat ∧
  field bytes 19 1 = r.flags.axleOver.toNat + 2 * r.flags.gvwOver.toNat + 4 * r.flags.laneBanned.toNat ∧
  field bytes 20 2 = twos 2 r.tw ∧ field bytes 22 2 = r.generation % 65536 ∧ field bytes 24 2 = r.kd % 65536 ∧
  field bytes 26 4 = r.gvw % 2 ^ 32 ∧ field bytes 30 4 = r.wheelbase % 2 ^ 32 ∧
  ∀ (i : Nat) (h : i < r.axles.length), AxleAt bytes (34 + 11 * i) r.axles[i]

/-- A tally's lists of counts have the lengths of R166. -/
def Tally.Sized (t : Tally) : Prop :=
  t.classes.length = 32 ∧ t.qualities.length = 10 ∧ t.speeds.length = 16 ∧ t.gvws.length = 16 ∧ t.axleLoads.length = 16

/-- At place i stand counts of 2 bytes each. -/
def CountsAt (bytes : List Byte) (i : Nat) (counts : List Nat) : Prop :=
  ∀ (j : Nat) (h : j < counts.length), field bytes (i + 2 * j) 2 = counts[j] % 65536

/-- A tally entry of 810 bytes: the header of 18 and the four lane blocks of 198. -/
def TallyLayout (bytes : List Byte) (e : TallyEntry) : Prop :=
  bytes.length = 810 ∧ field bytes 0 4 = e.start.toNat ∧ field bytes 4 4 = e.finish.toNat ∧
  field bytes 8 2 = e.extension % 65536 ∧
  (∀ p : ProbeId, field bytes (10 + 2 * p.val) 2 = twos 2 ((e.probes.get p).getD (-32768))) ∧
  ∀ ln : LaneId,
    let t := e.lanes.get ln
    let i := 18 + 198 * ln.val
    CountsAt bytes i t.classes ∧ CountsAt bytes (i + 64) t.qualities ∧ CountsAt bytes (i + 84) t.speeds ∧
    CountsAt bytes (i + 116) t.gvws ∧ CountsAt bytes (i + 148) t.axleLoads ∧
    CountsAt bytes (i + 180) [t.axleOver, t.gvwOver, t.laneBanned, t.spikes, t.singleRow, t.dropped] ∧
    field bytes (i + 192) 2 = twos 2 t.twMin ∧ field bytes (i + 194) 2 = twos 2 t.twMax ∧
    field bytes (i + 196) 2 = twos 2 t.twLast

/-- A capture description of 15 bytes; the start tick of a capture of no set is sent as 0 (notes/assumptions/18.md). -/
def DescriptionLayout (bytes : List Byte) (d : Description) : Prop :=
  bytes.length = 15 ∧ field bytes 0 6 = d.serial.getD 0 % 2 ^ 48 ∧ field bytes 6 1 = d.lane.val + 1 ∧
  field bytes 7 4 = (d.startTick.map BitVec.toNat).getD 0 ∧ field bytes 11 1 = d.d % 256 ∧
  field bytes 12 2 = d.count % 65536 ∧ field bytes 14 1 = d.truncated.toNat

/-- The sets of a capture, from its start to the newest (R176). -/
def captureSets (c : CaptureUnit) : List SampleSet :=
  if c.startTick = none then [] else c.buffer.dropWhile fun y => decide (some y.tick ≠ c.startTick)

/-- At place i stand the Capture Unit's state, armed lane, d, trigger and held sample count, 7 bytes (R178). -/
def CaptureAt (bytes : List Byte) (i : Nat) (c : CaptureUnit) : Prop :=
  field bytes i 1 = (match c.state with | .idle => 0 | .armed => 1 | .recording => 2 | .held => 3) ∧
  field bytes (i + 1) 1 = (c.lane.map fun ln => ln.val + 1).getD 255 ∧ field bytes (i + 2) 1 = c.d.getD 255 % 256 ∧
  field bytes (i + 3) 1 = (match c.trigger with
    | some .next => 0 | some .flagged => 1 | some (.cls _) => 2 | some .enforce => 3 | none => 255) ∧
  field bytes (i + 4) 1 = (match c.trigger with
    | some (.cls n) => n % 256 | some _ => 0 | none => 255) ∧
  field bytes (i + 5) 2 = (c.description.map Description.count).getD 65535 % 65536

/-- At place i stands a channel's group of LIVE_READ, 14 bytes (R35). -/
def ChannelAt (bytes : List Byte) (i : Nat) (u : ChannelUnit) : Prop :=
  field bytes i 1 = (match u.service with | .active => 0 | .suspect => 1 | .failed => 2 | .disabled => 3) ∧
  field bytes (i + 1) 1 =
    (match u.detector with | .quiet => 0 | .onset _ _ => 1 | .pulse _ _ _ => 2 | .held _ => 3) ∧
  field bytes (i + 2) 2 = twos 2 u.y ∧ field bytes (i + 4) 2 = twos 2 (roundInt u.baseline 256) ∧
  field bytes (i + 6) 4 = twos 4 u.lastExcess ∧ field bytes (i + 10) 1 = u.overlong % 256 ∧
  field bytes (i + 11) 1 = u.miss % 256 ∧ field bytes (i + 12) 2 = u.generation.getD 0 % 65536

/-- At place i stands a matcher's group of LIVE_READ, 18 bytes (R55). -/
def MatcherAt (bytes : List Byte) (i : Nat) (m : Matcher) (quiet : Bool) : Prop :=
  field bytes i 1 = m.list1.length % 256 ∧ field bytes (i + 1) 1 = m.list2.length % 256 ∧
  field bytes (i + 2) 1 = m.queue.length % 256 ∧ OptAt bytes (i + 3) (m.queue.head?.map fun c => c.onset.toNat) ∧
  field bytes (i + 8) 2 = (m.windows.map Windows.dtMin).getD 65535 % 65536 ∧
  field bytes (i + 10) 2 = (m.windows.map Windows.dtMax).getD 65535 % 65536 ∧
  OptAt bytes (i + 12) (m.mark.map BitVec.toNat) ∧ field bytes (i + 17) 1 = quiet.toNat

/-- At place i stands an assembler's group of LIVE_READ, 21 bytes (R92). -/
def AssemblerAt (bytes : List Byte) (i : Nat) (a : Assembler) : Prop :=
  field bytes i 1 = a.context.isSome.toNat ∧ field bytes (i + 1) 1 = a.presence.toNat ∧
  field bytes (i + 2) 1 = yesNo (a.working.map LaneItem.loop) ∧ field bytes (i + 3) 2 = a.heldSpeed % 65536 ∧
  OptAt bytes (i + 5) (a.context.map fun c => c.openTick.toNat) ∧
  field bytes (i + 10) 1 = (a.context.map fun c => c.axles.length).getD 0 % 256 ∧
  field bytes (i + 11) 2 = (a.context.map fun c => c.generation.number).getD 0 % 65536 ∧
  field bytes (i + 13) 2 = twos 2 ((a.context.map Context.tw).getD (-32768)) ∧
  field bytes (i + 15) 1 = yesNo (a.context.map Context.held) ∧
  field bytes (i + 16) 1 = (a.context.map fun c => c.band.val).getD 255 ∧
  field bytes (i + 17) 2 = (a.context.map Context.kd).getD 65535 % 65536 ∧
  field bytes (i + 19) 1 = yesNo (a.context.map Context.fell) ∧ field bytes (i + 20) 1 = yesNo (a.context.map Context.split)

/-- At place i stands a probe's group of LIVE_READ, 13 bytes (R72). -/
def ProbeAt (bytes : List Byte) (i : Nat) (p : Probe) : Prop :=
  field bytes i 1 = (match p.role with | .primary => 0 | .alternate => 1 | .surface => 2 | .deep => 3 | .none => 4) ∧
  field bytes (i + 1) 1 = (match p.state with | .absent => 0 | .seeding => 1 | .good => 2 | .suspect => 3 | .failed => 4) ∧
  OptAt bytes (i + 2) p.lastF10 ∧
  field bytes (i + 7) 2 = (match p.lastReading with
    | none => 0x8000 | some (.temp t) => twos 2 t | some .outOfRange => 0x7FFF | some .noSignal => 0x7FFE) ∧
  field bytes (i + 9) 2 = twos 2 (p.smoothed.getD (-32768)) ∧ field bytes (i + 11) 1 = p.rejectRun % 256 ∧
  field bytes (i + 12) 1 = (p.recovery.map Recovery.count).getD 0 % 256

/-- The 476 bytes of LIVE_READ after the result code (R35, R55, R72, R92, R172, R178, R183; places and codes by
notes/assumptions/21.md). -/
def LiveLayout (bytes : List Byte) (s : State) : Prop :=
  bytes.length = 476 ∧ (∀ (ln : LaneId) (p : Strip), ChannelAt bytes (56 * ln.val + 14 * p.val) (s.unit ⟨ln, p⟩)) ∧
  (∀ ln : LaneId, MatcherAt bytes (224 + 39 * ln.val) (s.matcher ln) (s.quiet ln) ∧
    AssemblerAt bytes (242 + 39 * ln.val) (s.asm ln)) ∧
  (∀ p : ProbeId, ProbeAt bytes (380 + 13 * p.val) (s.probe p)) ∧
  field bytes 432 1 = (s.temp.gate.map fun g => g.probe.val + 1).getD 255 ∧
  field bytes 433 1 = (match s.temp.selection with | .primary => 0 | .alternate => 1 | .none => 2) ∧
  field bytes 434 2 = twos 2 s.temp.tw ∧ field bytes 436 1 = s.temp.held.toNat ∧
  field bytes 437 1 = (bandOf s.temp.tw).val ∧
  (∀ ln : LaneId, field bytes (438 + 6 * ln.val) 4 = (s.tally.active.get ln).classes.sum % 2 ^ 32 ∧
    field bytes (442 + 6 * ln.val) 2 = (s.tally.active.get ln).dropped % 65536) ∧
  CaptureAt bytes 462 s.capture ∧
  if s.capture.state = .recording then
    OptAt bytes 469 (s.capture.startTick.map BitVec.toNat) ∧
    field bytes 474 2 = (captureSets s.capture).length % 65536
  else OptAt bytes 469 none ∧ field bytes 474 2 = 65535

/-- The body of a notice after its code byte (table of R182). -/
def NoticeLayout (bytes : List Byte) : Notice → Prop
  | .started power restart => bytes.length = 1 ∧ field bytes 0 1 = power.toNat + 2 * restart.toNat
  | .recordsReady held oldest =>
    bytes.length = 8 ∧ field bytes 0 2 = held % 65536 ∧ field bytes 2 6 = oldest.getD 0 % 2 ^ 48
  | .tallyClosed n => bytes.length = 1 ∧ field bytes 0 1 = n % 256
  | .serviceChange c =>
    bytes.length = 5 ∧ field bytes 0 2 = c.channels.toNat ∧ field bytes 2 1 = c.probes.toNat ∧
    field bytes 3 1 = c.lanes.toNat ∧ field bytes 4 1 = c.timebase.toNat
  | .driftUpdated lanes => bytes.length = 4 ∧ ∀ ln : LaneId, field bytes ln.val 1 = (lanes.get ln).toNat
  | .captureHeld serial => bytes.length = 6 ∧ field bytes 0 6 = serial.getD 0 % 2 ^ 48

/-- At place i stand fields of 2 bytes, or of 4, one after another. -/
def FieldsAt (bytes : List Byte) (i : Nat) : List (Nat × Nat) → Prop
  | [] => bytes.length = i
  | (width, v) :: rest => field bytes i width = v % 256 ^ width ∧ FieldsAt bytes (i + width) rest

/-- The fields of an item with their widths in bytes, in the order of the table of R185; what a class rule does not hold is
sent as 0. -/
def itemLayout : Item → List (Nat × Nat)
  | .site v =>
    [(1, 0), (1, 0), (2, v.interval), (2, v.threshold), (2, v.axleLimit), (4, v.gvwLimit), (2, v.gate), (2, v.q), (2, v.jump)]
  | .lane n v =>
    [(1, 1), (1, n.val + 1), (2, v.enabled.toNat), (2, v.loop.toNat), (2, v.rowSpacing), (2, v.vLo), (2, v.vHi),
      (2, v.pairWindow), (2, v.hold), (2, v.sMax), (2, v.gapLoop), (2, v.gapNoLoop), (2, v.openLimit), (2, v.fallback),
      (2, v.validLow), (2, v.validHigh), (2, v.accelTol), (2, v.rowTol), (4, v.permit.toNat)]
  | .channel ch v =>
    [(1, 2), (1, 4 * ch.lane.val + ch.strip.val + 1), (2, v.enabled.toNat), (2, v.k), (2, v.m), (2, v.thOn), (2, v.thOff),
      (2, v.cOn), (2, v.cOff), (2, v.wMin), (2, v.wMax), (2, v.sensitivity)]
  | .speedTab n points =>
    [(1, 3), (1, n.val + 1), (1, points.length)] ++ points.flatMap fun p => [(2, p.1), (2, p.2)]
  | .tempTab factors => [(1, 4), (1, 0), (1, factors.length)] ++ factors.map fun k => (2, k)
  | .classRule i none => [(1, 5), (1, i.val)] ++ List.replicate 24 (1, 0)
  | .classRule i (some r) =>
    [(1, 5), (1, i.val),
      (1, 1 + 2 * r.gvw.isSome.toNat + 4 * r.minFirstAxle.isSome.toNat + 8 * r.axleLimit.isSome.toNat +
        16 * r.gvwLimit.isSome.toNat),
      (2, r.code), (2, r.axles.min), (2, r.axles.max), (1, r.spacings.length)] ++
    (r.spacings.flatMap fun b => [(2, b.min), (2, b.max)]) ++
    [(4, (r.gvw.map Bounds.min).getD 0), (4, (r.gvw.map Bounds.max).getD 0), (2, r.minFirstAxle.getD 0),
      (2, r.axleLimit.getD 0), (4, r.gvwLimit.getD 0)]
  | .drift v => [(1, 6), (1, 0), (2, v.refClass), (2, v.target), (2, v.window), (2, v.batch), (2, v.gain), (2, v.maxStep)]
  | .probe p v =>
    [(1, 7), (1, p.val + 1),
      (2, match v.role with | .primary => 0 | .alternate => 1 | .surface => 2 | .deep => 3 | .none => 4),
      (1, v.points.length)] ++ v.points.flatMap fun q => [(4, q.1), (2, twos 2 q.2)]

/-! ## Replies (R181) -/

/-- The requests after a request has been served: the oldest unserved one is marked served when it is that request; otherwise they
are as they were (R181, notes/assumptions/8.md). -/
def Served (old new : List Request) (kind tag : Byte) (body : List Byte) : Prop :=
  (∀ before r after, old = before ++ r :: after → (∀ q ∈ before, q.served = true) → r.served = false →
    new = if r.kind = kind ∧ r.tag = tag ∧ r.body = body then before ++ { r with served := true } :: after else old) ∧
  ((∀ r ∈ old, r.served = true) → new = old)

/-- The link of t is that of s with one reply at the tail of the outgoing queue, and the requests of the queue as t has them: the
oldest unserved one, of this kind and tag, is marked served and the reply is its own; or they are as they were and the reply
belongs to no place in the queue (R181, notes/assumptions/8.md). -/
def Replied (s t : State) (kind tag : Byte) (reply : List Byte) : Prop :=
  t.link = { s.link with
    requests := t.link.requests
    outgoing := s.link.outgoing ++
      [.reply { kind := kind + 0x80, tag := tag, body := reply
                source := if t.link.requests = s.link.requests then .direct else .queued }] } ∧
  ∃ body, Served s.link.requests t.link.requests kind tag body

/-- t is s with one reply made and nothing else changed. -/
def OnlyReplied (s t : State) (kind tag : Byte) (reply : List Byte) : Prop :=
  Replied s t kind tag reply ∧ t = { s with link := t.link }

/-- The events that the device's own blocks can take of their own accord, one for each row of the table that is no input, no
request and no end of a transmission. -/
def ownEvents : List Instr :=
  [.pulseReport, .recordStoreDelivery, .tallyDrop, .tallyRecord, .driftFeed, .captureCloseTest, .channelSupervision,
    .probeSettingsTake, .driftPolicyTake, .siteSettingsTake, .timebaseSilence, .freeRunningBoundary, .gateEnd,
    .frameGapExpiry, .captureWrite] ++
  allChannels.flatMap (fun ch => [.pulseOverlong ch, .channelSettingsWaiting ch, .holdExpiry ch]) ++
  fours.flatMap fun ln => [.pendingExpiry ln, .deliveryMarkLapse ln, .gapWithLoop ln, .gapWithoutLoop ln, .timeout ln]

/-- The overrun slot after a frame's transmission has begun: emptied by the reply it holds (R181). -/
def slotBegun (slot : Option Reply) (f : OutFrame) : Option Reply :=
  match f with
  | .reply r => if r.source = .overrun then none else slot
  | .notice _ => slot

/-- The state after a run of commands, one after another; none where one of them does not answer a next state. -/
def State.run (s : State) : List Instr → Option State
  | [] => some s
  | c :: cs =>
    match exec c s with
    | .next t => t.run cs
    | _ => none

/-- The body length that a request of fixed length requires (table of R185); none for STAGE_PUT and for the commands that are
no request. -/
def requiredLength : Instr → Option Nat
  | .status _ _ => some 0
  | .liveRead _ _ => some 0
  | .timeSet _ _ => some 4
  | .restart _ _ => some 0
  | .channelRestore _ _ => some 1
  | .probeRestore _ _ => some 1
  | .stageOpen _ _ => some 0
  | .stageDiscard _ _ => some 0
  | .stageCommit _ _ => some 1
  | .tableRead _ _ => some 2
  | .driftGet _ _ => some 1
  | .driftSet _ _ => some 4
  | .driftFreeze _ _ => some 2
  | .recordFetch _ _ => some 7
  | .recordRelease _ _ => some 6
  | .tallyFetch _ _ => some 0
  | .tallyRelease _ _ => some 0
  | .captureArm _ _ => some 4
  | .captureFetch _ _ => some 3
  | .captureRelease _ _ => some 0
  | _ => none

/-! ## Invariants of the measurement blocks -/

/-- The timebase's figures lie in their ranges (R2, R3, R5, R7): N_ref, the members of the candidate run, its length between
edges and the reject run. -/
def State.RateInv (s : State) : Prop :=
  9800 ≤ s.tb.nRef ∧ s.tb.nRef ≤ 10200 ∧ s.tb.run.length ≤ 2 ∧ (∀ n ∈ s.tb.run, 9800 ≤ n ∧ n ≤ 10200) ∧
  s.tb.rejectRun ≤ 2

/-- A unit that is not DISABLED has settings, and a DISABLED one has both counts at 0; a unit that is not running holds no
attempt and shows no excess; and a running one has not reached a limit of its counts (R24, R27, R29, R35). -/
def ChannelUnit.Ok (u : ChannelUnit) : Prop :=
  (u.service ≠ .disabled → u.settings.isSome = true) ∧ (u.service = .disabled → u.overlong = 0 ∧ u.miss = 0) ∧
  (u.running = false → u.detector = .quiet ∧ u.lastExcess = 0) ∧ (u.running = true → u.overlong ≤ 1 ∧ u.miss ≤ 31) ∧
  u.overlong ≤ 2 ∧ u.miss ≤ 32

/-- Every channel unit is in order. -/
def State.ChannelInv (s : State) : Prop := ∀ ch, (s.unit ch).Ok

/-- A lane's lists and queue keep their bounds (R39, R45); it is IN_SERVICE exactly when its working settings enable it (R74);
an OUT lane holds nothing (R53); and it has windows and working settings exactly when it has adopted a generation. -/
def State.LaneOk (s : State) (ln : LaneId) : Prop :=
  (s.matcher ln).list1.length ≤ 4 ∧ (s.matcher ln).list2.length ≤ 4 ∧ (s.matcher ln).queue.length ≤ 8 ∧
  ((s.asm ln).service = .inService ↔ (s.asm ln).working.any LaneItem.enabled = true) ∧
  ((s.asm ln).service = .out → s.quiet ln = true) ∧
  (s.asm ln).working.isSome = (s.asm ln).adopted.isSome ∧ (s.matcher ln).windows.isSome = (s.asm ln).adopted.isSome

/-- Every lane is in order. -/
def State.LaneInv (s : State) : Prop := ∀ ln, s.LaneOk ln

/-- The selection is the one of R68, T_w is the smoothed value of the selected probe, and the held mark is set exactly when
none is selected; a usable probe has a smoothed value. -/
def State.SelectionInv (s : State) : Prop :=
  s.temp.selection = s.temp.choose.1 ∧ s.temp.held = s.temp.choose.2.isNone ∧
  (∀ p, s.temp.choose.2 = some p → p.smoothed = some s.temp.tw) ∧
  ∀ p, (s.probe p).usable = true → (s.probe p).smoothed.isSome = true

/-- Every drift factor lies within 0.75 to 1.25 (R133). -/
def State.FactorInv (s : State) : Prop :=
  ∀ ln b, Config.kdMin ≤ (s.driftBand ln b).kd ∧ (s.driftBand ln b).kd ≤ Config.kdMax

/-! ## Invariants of the site tables -/

/-- Every item of a set passes its own checks (R147). -/
def TableSet.ItemsOk (t : TableSet) : Prop :=
  t.site.ok = true ∧ (∀ n, (t.lanes.get n).ok = true) ∧
  (∀ ch : ChannelId, ((t.channels.get ch.lane).get ch.strip).ok = true) ∧ (∀ n, speedTabOk (t.speedTabs.get n) = true) ∧
  tempTabOk t.tempTab = true ∧ t.classes.length = 32 ∧ (∀ r ∈ t.classes, r.all ClassRule.ok = true) ∧
  t.drift.ok = true ∧ ∀ p, (t.probes.get p).ok = true

/-- A generation comes from a set that passed every check, with its speed tables converted (R147, R149, R150). -/
def Generation.Ok (g : Generation) : Prop :=
  g.set.ItemsOk ∧ g.set.firstFailure = none ∧ g = g.set.generation g.number

/-- Every set the device holds or hands on is in order, and every drift batch is smaller than the batch size (R132, R136,
R147, R149). -/
def State.SettingsInv (s : State) : Prop :=
  (∀ x, s.tables.staging = some x → x.set.ItemsOk) ∧ (∀ g, s.tables.active = some g → g.Ok) ∧
  (∀ g, s.tables.retiring = some g → g.Ok) ∧ (∀ ln g, (s.asm ln).adopted = some g → g.Ok) ∧
  (∀ o ∈ s.mail.driftOffers, o.policy.ok = true) ∧ s.drift.policy.ok = true ∧
  ∀ ln b, (s.driftBand ln b).n < s.drift.policy.batch

/-- Generations are numbered and live as R151 and R153 give: the active one carries the counter's number; a retiring one is
the one before it and some lane holds it; every lane holds one of the two; and an open vehicle holds its lane's. -/
def State.GenerationInv (s : State) : Prop :=
  (match s.tables.active with
    | none => s.tables.counter = 0 ∧ s.tables.retiring = none
    | some a => a.number = s.tables.counter ∧ 1 ≤ a.number ∧ a.number ≤ 65535) ∧
  (∀ g, s.tables.retiring = some g →
    1 ≤ g.number ∧ g.number ≤ 65535 ∧ s.tables.counter = nextGeneration g.number ∧ s.someLaneHolds g.number = true) ∧
  (∀ ln g, (s.asm ln).adopted = some g → s.tables.active = some g ∨ s.tables.retiring = some g) ∧
  ∀ ln c, (s.asm ln).context = some c → (s.asm ln).adopted = some c.generation

/-! ## Invariants of the records -/

/-- The relations the close fixes (R162): GVW and wheelbase are sums over the axle list, of 1 to 13 entries, and a GOOD record
is clean in every mark. -/
def VehicleRecord.Ok (r : VehicleRecord) : Prop :=
  r.gvw = (r.axles.map AxleEntry.load).sum ∧ r.wheelbase = (r.axles.filterMap AxleEntry.spacing).sum ∧
  1 ≤ r.axles.length ∧ r.axles.length ≤ 13 ∧
  (r.quality = .good → ∀ a ∈ r.axles, a.row = .both ∧ a.straddle = false ∧ a.single = .clear)

/-- The records that the store holds or will take, oldest first. -/
def State.records (s : State) : List VehicleRecord := s.store.held ++ s.mail.toStore

/-- A serial has been assigned already (R160, R164). -/
def RecordStore.assigned (st : RecordStore) (n : Nat) : Prop := 1 ≤ n ∧ n ≤ Config.serialMax ∧ ∀ c, st.serial = some c → n < c

/-- The store keeps its bound, its records stand in the order of their serials, which have all been assigned, every held record
has one, every record satisfies the relations of R162, and every open vehicle has 1 to 13 axles (R85, R159, R160, R162). -/
def State.RecordInv (s : State) : Prop :=
  s.store.held.length ≤ Config.storeCapacity ∧ (∀ r ∈ s.store.held, r.serial.isSome = true) ∧
  (s.records.filterMap VehicleRecord.serial).Pairwise (· < ·) ∧
  (∀ n ∈ s.records.filterMap VehicleRecord.serial, s.store.assigned n) ∧
  (∀ c, s.store.serial = some c → 1 ≤ c ∧ c ≤ Config.serialMax) ∧ (∀ r ∈ s.records, r.Ok) ∧
  ∀ ln c, (s.asm ln).context = some c → 1 ≤ c.axles.length ∧ c.axles.length ≤ 13

/-- Every tally, active or closed, keeps its lists of counts at the lengths of R166, and at most four wait to be fetched
(R169). -/
def State.TallyInv (s : State) : Prop :=
  s.tally.queue.length ≤ 4 ∧ (∀ ln, (s.tally.active.get ln).Sized) ∧ ∀ e ∈ s.tally.queue, ∀ ln, (e.lanes.get ln).Sized

/-! ## Invariants of the link -/

/-- A frame is the reply of a request that holds a place in the queue. -/
def OutFrame.holdsPlace : OutFrame → Bool
  | .reply r => r.source = .queued
  | .notice _ => false

/-- The OVERRUN reply a frame carries. -/
def OutFrame.overrunOf : OutFrame → Option Reply
  | .reply r => if r.source = .overrun then some r else none
  | .notice _ => none

/-- Two frames are not notices of one kind. -/
def OutFrame.differ : OutFrame → OutFrame → Bool
  | .notice m, .notice n => !m.sameKind n
  | _, _ => true

/-- The frames whose transmission has not ended, oldest first. -/
def Link.unsent (l : Link) : List OutFrame := l.sending.toList ++ l.outgoing

/-- The request queue keeps its bound and its order of serving, a request holds its place until its reply's transmission ends,
the overrun slot holds the waiting OVERRUN reply, and each notice kind has at most one pending instance (R181, R182). -/
def State.LinkInv (s : State) : Prop :=
  s.link.requests.length ≤ Config.requestCapacity ∧
  s.link.requests.Pairwise (fun a b => b.served = true → a.served = true) ∧
  s.link.requests.countP Request.served = s.link.unsent.countP OutFrame.holdsPlace ∧
  s.link.outgoing.filterMap OutFrame.overrunOf = s.link.overrunSlot.toList ∧
  s.link.outgoing.Pairwise (fun a b => a.differ b = true)

end Sys2Proof.Machine
end

