-- ==== Sys2Proof/Certificates/Slice0/Obligations.lean ====
section
/-! DEFINITION. The statements for the provers, in the order of the manual's chapters: each formalises what the rules named in its
docstring say of the device. -/

open Sys2Proof Sys2Proof.Machine

/-! ## The step and the starts -/

/-- A step with a command waiting runs the command at the front of the queue with the queue's rest. The queue of commands is the
model's (notes/assumptions/2.md); a step on an empty queue is in TimebaseRunsWithoutEdges. -/
def Obligations.StepRunsFrontCommand : Prop :=
  ∀ (c : Instr) (rest : List Instr) (s : State), s.pending = c :: rest → step s = exec c { s with pending := rest }

/-- Every command answers a next state in every state, and none touches the queue of waiting commands. -/
def Obligations.EveryCommandCompletes : Prop := ∀ (c : Instr) (s : State), ∃ t, exec c s = .next t ∧ t.pending = s.pending

/-- Power-on sets every block to its start values, whatever the state before (R14, R36, R54, R73, R93, R144, R158, R172, R178,
R184), and the line to the rate of the straps (R179). The sampled level of REFPULSE, the seed mark, the last byte's tick and
the tick of the next capture write are the model's fields (notes/assumptions/3.md). A probe's edge count of 0
(notes/assumptions/16.md) and the values 10 000, 3 and 30 of G, q and J, which no rule lists (notes/assumptions/17.md), are the
model's choice, and so is that reset is power-on with both straps low (notes/assumptions/4.md). -/
def Obligations.PowerOnSetsStartValues : Prop :=
  ∀ (rate1 rate0 : Bool) (s : State), ∃ t, exec (.powerOn rate1 rate0) s = .next t ∧ t.pending = s.pending ∧
    t.tb = { t := 0, refHigh := false, lock := .unlocked, nRef := 10000, tLast := none, lastInterval := none, run := [],
             rejectRun := 0, seconds := 0, mark := 0, rejectedEdges := 0, relocks := 0 } ∧
    (∀ ch, t.unit ch = { y := 0, baseline := 0, detector := .quiet, service := .disabled, overlong := 0, miss := 0,
                         settings := none, generation := none, waiting := none, seed := false, lastExcess := 0 }) ∧
    (∀ ln, t.matcher ln = { list1 := [], list2 := [], queue := [], windows := none, mark := none }) ∧
    (∀ ln, t.asm ln = { adopted := none, working := none, service := .out, presence := false, presenceRun := 0,
                        heldSpeed := 22222, context := none }) ∧
    (∀ p, t.probe p = { role := .none, points := [], state := .absent, lastF10 := none, lastReading := none,
                        smoothed := none, rejectRun := 0, recovery := none, edges := 0 }) ∧
    (t.temp.gate = none ∧ t.temp.gateLength = 10000 ∧ t.temp.q = 3 ∧ t.temp.jump = 30 ∧ t.temp.selection = .none ∧
      t.temp.tw = 200 ∧ t.temp.held = true) ∧
    t.drift.policy = { refClass := 0, target := 6000, window := 30, batch := 32, gain := 64, maxStep := 20 } ∧
    (∀ ln, (t.drift.lanes.get ln).frozen = false) ∧
    (∀ ln b, t.driftBand ln b = { kd := 16384, sum := 0, n := 0, rejected := 0 }) ∧
    t.tables = { staging := none, active := none, retiring := none, counter := 0 } ∧
    t.store = { held := [], serial := some 1, dropped := 0, armed := true, threshold := 8 } ∧
    ((∀ ln, t.tally.active.get ln =
        { classes := List.replicate 32 0, qualities := List.replicate 10 0, speeds := List.replicate 16 0
          gvws := List.replicate 16 0, axleLoads := List.replicate 16 0, axleOver := 0, gvwOver := 0, laneBanned := 0
          spikes := 0, singleRow := 0, dropped := 0, twMin := 200, twMax := 200, twLast := 200 }) ∧
      t.tally.openedAt = 0 ∧ t.tally.extension = 0 ∧ t.tally.interval = 15 ∧
      t.tally.queue = []) ∧
    t.capture = { state := .idle, lane := none, d := none, trigger := none, buffer := [], startTick := none,
                  truncated := false, description := none, nextWrite := 0 } ∧
    t.link = { rate := if rate1 then (if rate0 then .r921600 else .r460800) else (if rate0 then .r230400 else .r115200),
               rx := .hunt, lastByte := 0, requests := [], overrunSlot := none,
               outgoing := [.notice (.started true false)], sending := none, badFrames := 0, overruns := 0 } ∧
    t.mail = { reports := [], toStore := [], toTally := [], toDrift := [], toCapture := [], toUnits := [], drops := [],
               tempOffers := [], driftOffers := [], siteOffers := [] } ∧
    (rate1 = false → rate0 = false → t = { State.reset with pending := s.pending })

/-! ## Sample Timebase -/

/-- Edges before lock (R2, R3): a sample of REFPULSE that is no rising edge registers nothing, the first edge only sets Tlast, and of
a measured edge in UNLOCKED or FREE a non-candidate empties the run and is counted; a candidate starts, restarts or
extends the run; the third consistent candidate realigns the clock (R9) and locks with the run's mean, and the windows follow
N_ref (R44). That an OUT lane keeps its windows then, as R53 has it against R44, is the model's choice
(notes/assumptions/9.md). -/
def Obligations.SearchingEdge : Prop :=
  (∀ s : State,
    exec (.refEdge false) s = .next { s with tb := { s.tb with refHigh := false } } ∧
    (s.tb.refHigh = true → exec (.refEdge true) s = .next s) ∧
    (s.tb.refHigh = false → s.tb.tLast = none →
      exec (.refEdge true) s = .next { s with tb := { s.tb with refHigh := true, tLast := some s.tb.t } })) ∧
  ∀ (s : State) (past : Tick), s.tb.lock ≠ .locked → s.tb.refHigh = false → s.tb.tLast = some past →
    let n := ticksSince s.tb.t past
    let noted : Timebase := { s.tb with refHigh := true, tLast := some s.tb.t, lastInterval := some n }
    ((n < 9800 ∨ 10200 < n) → exec (.refEdge true) s =
      .next { s with tb := { noted with run := [], rejectedEdges := min 65535 (s.tb.rejectedEdges + 1) } }) ∧
    (9800 ≤ n → n ≤ 10200 →
      (s.tb.run = [] → exec (.refEdge true) s = .next { s with tb := { noted with run := [n] } }) ∧
      (∀ a, s.tb.run.getLast? = some a → 4 < ((n : Int) - a).natAbs →
        exec (.refEdge true) s = .next { s with tb := { noted with run := [n] } }) ∧
      (∀ a, s.tb.run = [a] → ((n : Int) - a).natAbs ≤ 4 →
        exec (.refEdge true) s = .next { s with tb := { noted with run := [a, n] } }) ∧
      (∀ a b, s.tb.run = [a, b] → ((n : Int) - b).natAbs ≤ 4 →
        ∃ t link, exec (.refEdge true) s = .next t ∧
          t.tb = { noted with
            lock := .locked, nRef := roundNat (a + b + n) 3, run := [], rejectRun := 0, mark := s.tb.t,
            seconds := t.tb.seconds
            relocks := if s.tb.lock = .free then min 65535 (s.tb.relocks + 1) else s.tb.relocks } ∧
          Realigned s t.tb.seconds t.tally link ∧ t.link = link.raised timebaseChange ∧
          WindowsFollow s t (roundNat (a + b + n) 3) ∧
          t = { s with tb := t.tb, lanes := t.lanes, tally := t.tally, link := t.link }))

/-- A measured edge in LOCKED (R4, R5): within 4 ticks of N_ref it is accepted, realigns the clock (R9) and becomes N_ref, and the
windows follow it (R44); any other is rejected, and the third reject in a row unlocks. That an OUT lane keeps its windows when
N_ref changes, as R53 has it against R44, is the model's choice (notes/assumptions/9.md). -/
def Obligations.LockedEdge : Prop :=
  ∀ (s : State) (past : Tick), s.tb.lock = .locked → s.tb.refHigh = false → s.tb.tLast = some past →
    let n := ticksSince s.tb.t past
    let noted : Timebase := { s.tb with refHigh := true, tLast := some s.tb.t, lastInterval := some n }
    let rejected : Timebase := { noted with rejectedEdges := min 65535 (s.tb.rejectedEdges + 1) }
    (9800 ≤ n → n ≤ 10200 → ((n : Int) - s.tb.nRef).natAbs ≤ 4 →
      ∃ t, exec (.refEdge true) s = .next t ∧
        t.tb = { noted with nRef := n, rejectRun := 0, mark := s.tb.t, seconds := t.tb.seconds } ∧
        Realigned s t.tb.seconds t.tally t.link ∧ WindowsFollow s t n ∧
        t = { s with tb := t.tb, lanes := t.lanes, tally := t.tally, link := t.link }) ∧
    ((n < 9800 ∨ 10200 < n ∨ 4 < ((n : Int) - s.tb.nRef).natAbs) →
      (s.tb.rejectRun < 2 → exec (.refEdge true) s =
        .next { s with tb := { rejected with rejectRun := s.tb.rejectRun + 1 } }) ∧
      (2 ≤ s.tb.rejectRun → exec (.refEdge true) s =
        .next { s with
          tb := { rejected with lock := .unlocked, run := [], rejectRun := 0 }
          link := s.link.raised timebaseChange }))

/-- The timebase without an edge (R6, R8, R169): a LOCKED timebase goes FREE 15 000 ticks after Tlast, with both runs empty and N_ref
and Tlast kept; and in every lock state, when T − mark has reached N_ref, S advances by one and mark by N_ref, and the Tally
Unit examines the new S. Before that, and in the other lock states, the silence and the boundary do nothing. And what a step does
when no command waits, in the order that is the model's choice (notes/assumptions/1.md, 14.md): it takes an event of the
device's own that is due, else serves the oldest request not yet served (R181), else writes the capture set that is due (R174),
else begins the waiting frame on an idle line (R182), and only with none of these, when every event of the device's own would
change nothing, does T advance by one, modulo 2^32 (R1). -/
def Obligations.TimebaseRunsWithoutEdges : Prop :=
  ∀ s : State,
    (∀ past, s.tb.lock = .locked → s.tb.tLast = some past → 15000 ≤ ticksSince s.tb.t past →
      exec .timebaseSilence s = .next { s with
        tb := { s.tb with lock := .free, run := [], rejectRun := 0 }
        link := s.link.raised timebaseChange }) ∧
    ((s.tb.lock ≠ .locked ∨ ∀ past, s.tb.tLast = some past → ticksSince s.tb.t past < 15000) →
      exec .timebaseSilence s = .next s) ∧
    (s.tb.nRef ≤ ticksSince s.tb.t s.tb.mark → ∃ t, exec .freeRunningBoundary s = .next t ∧
      t.tb = { s.tb with seconds := s.tb.seconds + 1, mark := s.tb.mark + BitVec.ofNat 32 s.tb.nRef } ∧
      IntervalExamined s (s.tb.seconds + 1) t.tally t.link ∧ t = { s with tb := t.tb, tally := t.tally, link := t.link }) ∧
    (ticksSince s.tb.t s.tb.mark < s.tb.nRef → exec .freeRunningBoundary s = .next s) ∧
    (s.pending = [] →
      let writes := (s.capture.state = .armed ∨ s.capture.state = .recording) ∧ s.capture.nextWrite = s.tb.t
      let rest : Prop := s.deliveryDue = none ∧ s.expiryDue = none
      let served : Prop := ∀ r ∈ s.link.requests, r.served = true
      (∀ c, s.deliveryDue = some c → step s = exec c s ∧ c ∈ ownEvents) ∧
      (∀ c, s.deliveryDue = none → s.expiryDue = some c → step s = exec c s ∧ c ∈ ownEvents) ∧
      (rest → ∀ before r after, s.link.requests = before ++ r :: after → (∀ q ∈ before, q.served = true) →
        r.served = false → step s = exec (decodeRequest r.kind r.tag r.body) s) ∧
      (rest → served → writes → step s = exec .captureWrite s) ∧
      (rest → served → ¬ writes →
        (∀ c ∈ ownEvents, exec c s = .next s) ∧
        (∀ f fs, s.link.sending = none → s.link.outgoing = f :: fs → step s = .next { s with link := { s.link with
          sending := some f, outgoing := fs, overrunSlot := slotBegun s.link.overrunSlot f } }) ∧
        (s.link.sending ≠ none ∨ s.link.outgoing = [] → ∃ t, step s = .next t ∧
          t.tb.t.toNat = (s.tb.t.toNat + 1) % 2 ^ 32 ∧ t = { s with tb := { s.tb with t := t.tb.t } })))

/-- TIME_SET (R10): S becomes the value carried and nothing else of the measurement changes; a body of another length is
refused. -/
def Obligations.TimeSetReplacesSeconds : Prop :=
  ∀ (s : State) (tag : Byte),
    (∀ v : Seconds, ∃ t, exec (.timeSet tag (leBytes 4 v.toNat)) s = .next t ∧ Replied s t 0x03 tag [0x00] ∧
      t = { s with tb := { s.tb with seconds := v }, link := t.link }) ∧
    (∀ body : List Byte, body.length ≠ 4 → ∃ t, exec (.timeSet tag body) s = .next t ∧ OnlyReplied s t 0x03 tag [0x02])

/-- What a close writes into the record besides loads, class, quality and flags (R90, R125, R126, R162), and its stamp (R11, R12): the
first axle's time is S and the ticks since mark when it is not before the mark, and otherwise counts back whole seconds of N_ref
from it, to a subtick below N_ref. The record has the serial and the lane given, the rounded mean of the own speeds in 0.1 km/h,
the latched T_w, generation and Kd and the split mark of its context, and of the conditions TIMEBASE_FREE exactly when the
timebase is not locked, TEMP_HELD as latched, TAILGATE and TIMEOUT as the close was, and CAPTURED clear. -/
def Obligations.RecordIsStamped : Prop :=
  ∀ (tb : Timebase) (serial : Option Nat) (ln : LaneId) (ctx : Context) (tailgate timeout : Bool) (x : ContextAxle)
    (xs : List ContextAxle), ctx.axles = x :: xs → 0 < tb.nRef →
    let r := completeRecord tb serial ln ctx tailgate timeout
    let time := x.axle.time
    (ticksSince time tb.mark < 2 ^ 31 → r.seconds = tb.seconds ∧ r.subtick = ticksSince time tb.mark) ∧
    (2 ^ 31 ≤ ticksSince time tb.mark → r.subtick < tb.nRef ∧
      ∃ k, r.seconds = tb.seconds - BitVec.ofNat 32 k ∧ k * tb.nRef = ticksSince tb.mark time + r.subtick) ∧
    (let own := ctx.axles.filterMap fun y => y.axle.ownSpeed
     (own = [] → r.speed = none) ∧ (own ≠ [] → r.speed = some (roundNat (roundNat own.sum own.length * 36) 1000))) ∧
    r.serial = serial ∧ r.lane = ln ∧ r.tw = ctx.tw ∧ r.generation = ctx.generation.number ∧ r.kd = ctx.kd ∧
    r.split = ctx.split ∧
    r.conditions = { tempHeld := ctx.held, timebaseFree := decide (tb.lock ≠ .locked), tailgate := tailgate
                     timeout := timeout, captured := false }

/-! ## Conventions -/

/-- The conventions: every division rounds to nearest, with halves away from zero (Rounding and saturation); and an entry joins a list in
tick order after every entry with an earlier or equal tick and before every entry with a later one (Tick arithmetic, R39, R45). -/
def Obligations.ConventionsOfRoundingAndOrder : Prop :=
  (∀ (n : Int) (d : Nat), 0 < d →
    (2 * (roundInt n d * d - n)).natAbs ≤ d ∧
    (∀ k : Nat, 2 * n = (2 * (k : Int) + 1) * d → roundInt n d = k + 1) ∧
    (∀ k : Nat, 2 * n = -((2 * (k : Int) + 1) * d) → roundInt n d = -(k + 1 : Int)) ∧
    (∀ m : Nat, roundInt (m : Int) d = roundNat m d)) ∧
  ∀ (α : Type) (key : α → Tick) (x : α) (before after : List α),
    (∀ e ∈ before, ticksSince (key x) (key e) < 2 ^ 31) → (∀ e ∈ after, 2 ^ 31 ≤ ticksSince (key x) (key e)) →
    insertBy key x (before ++ after) = before ++ x :: after

/-! ## Strip Channel Units -/

/-- A sample taken outside an attempt (R15 to R19, R33): a unit that is not running discards it; a seeding unit seeds on it; a QUIET unit
smooths it and tracks its baseline, or starts an attempt with the baseline held; and a unit that stays QUIET adopts what waits. -/
def Obligations.SampleOutsideAnAttempt : Prop :=
  ∀ (s : State) (ch : ChannelId) (x : Code), (s.unit ch).detector = .quiet →
    let u := s.unit ch
    (u.running = false → exec (.channelSample ch x) s = .next s) ∧
    (∀ cfg, u.running = true → u.settings = some cfg →
      (u.seed = true → ∃ t, exec (.channelSample ch x) s = .next t ∧ UnitBecomes s t ch
        (settled { u with y := x.toInt, baseline := 256 * x.toInt, seed := false, lastExcess := 0 })) ∧
      (u.seed = false →
        let y := u.y + roundInt (x.toInt - u.y) (2 ^ cfg.k)
        let e := y - roundInt u.baseline 256
        let a : Attempt :=
          { onset := s.tb.t, area := e.toNat, peak := e.toNat, clipped := decide (x = 0x8000#16 ∨ x = 0x7FFF#16) }
        (e ≤ cfg.thOn → ∃ t, exec (.channelSample ch x) s = .next t ∧ UnitBecomes s t ch
          (settled { u with
            y := y, baseline := u.baseline + roundInt (256 * y - u.baseline) (2 ^ cfg.m), lastExcess := e })) ∧
        (cfg.thOn < e → exec (.channelSample ch x) s =
          .next (s.setUnit ch { u with
            y := y, lastExcess := e, detector := if cfg.cOn ≤ 1 then .pulse a 0 false else .onset a 1 }))))

/-- A sample taken in an attempt or in HELD (R20 to R26): it is accumulated; an onset that falls back and a pulse that is too narrow
are spikes of the lane's tally; an ended pulse of w_min or more clears the overlong count and, in a lane that is not OUT, is
reported; at w_max the pulse is marked overdue; HELD ends after c_off low samples; and a unit that is QUIET again adopts what
waits (R33). The overdue mark, taken by PULSE_OVERLONG (notes/assumptions/13.md), and the width w_max that a pulse with c_off = 1
can be reported with (notes/assumptions/31.md) are the model's choice. -/
def Obligations.SampleInAnAttempt : Prop :=
  ∀ (s : State) (ch : ChannelId) (x : Code) (cfg : DetectorSettings), (s.unit ch).running = true →
    (s.unit ch).settings = some cfg → (s.unit ch).seed = false →
    let u := s.unit ch
    let y := u.y + roundInt (x.toInt - u.y) (2 ^ cfg.k)
    let e := y - roundInt u.baseline 256
    let taken : Attempt → Attempt := fun a =>
      { a with area := min 2147483647 (a.area + e.toNat), peak := max a.peak e.toNat
               clipped := a.clipped || decide (x = 0x8000#16 ∨ x = 0x7FFF#16) }
    let low : Nat → Nat := fun below => if e ≤ cfg.thOff then below + 1 else 0
    let after : Detector → ChannelUnit := fun d => { u with y := y, lastExcess := e, detector := d }
    let lane := s.tally.active.get ch.lane
    let spiked : State := { s with tally := { s.tally with
      active := s.tally.active.set ch.lane { lane with spikes := min 65535 (lane.spikes + 1) } } }
    (∀ a above, u.detector = .onset a above →
      (cfg.thOn < e → above + 1 < cfg.cOn →
        exec (.channelSample ch x) s = .next (s.setUnit ch (after (.onset (taken a) (above + 1))))) ∧
      (cfg.thOn < e → cfg.cOn ≤ above + 1 →
        exec (.channelSample ch x) s = .next (s.setUnit ch (after (.pulse (taken a) 0 false)))) ∧
      (e ≤ cfg.thOn → ∃ t, exec (.channelSample ch x) s = .next t ∧ UnitBecomes spiked t ch (settled (after .quiet)))) ∧
    (∀ a below, u.detector = .pulse a below false →
      let ended := s.tb.t - BitVec.ofNat 32 (cfg.cOff - 1)
      let report : PulseReport :=
        { channel := ch, onset := a.onset, ended := ended, width := ticksSince ended a.onset, peak := (taken a).peak,
          area := (taken a).area, clipped := (taken a).clipped }
      let sent : State :=
        if (s.asm ch.lane).service = .out then s
        else { s with mail := { s.mail with reports := s.mail.reports ++ [report] } }
      (low below < cfg.cOff → exec (.channelSample ch x) s = .next
        (s.setUnit ch (after (.pulse (taken a) (low below) (decide (cfg.wMax ≤ ticksSince s.tb.t a.onset)))))) ∧
      (cfg.cOff ≤ low below → report.width < cfg.wMin →
        ∃ t, exec (.channelSample ch x) s = .next t ∧ UnitBecomes spiked t ch (settled (after .quiet))) ∧
      (cfg.cOff ≤ low below → cfg.wMin ≤ report.width →
        ∃ t, exec (.channelSample ch x) s = .next t ∧ UnitBecomes sent t ch (settled { after .quiet with overlong := 0 }))) ∧
    (∀ below, u.detector = .held below →
      (low below < cfg.cOff → exec (.channelSample ch x) s = .next (s.setUnit ch (after (.held (low below))))) ∧
      (cfg.cOff ≤ low below →
        ∃ t, exec (.channelSample ch x) s = .next t ∧ UnitBecomes s t ch (settled (after .quiet))))

/-- PULSE_OVERLONG (R15, R24, R27, R31, R33): the first overlong puts the unit in HELD and marks the channel changed; the second,
with no accepted pulse since, fails it, and the unit, QUIET after that sample, adopts the settings that wait; a pulse that is
not overdue is left alone. A sample that comes before the overdue pulse is taken
finds it taken (the model's choice, notes/assumptions/13.md). -/
def Obligations.OverlongPulseHoldsThenFails : Prop :=
  ∀ (s : State) (ch : ChannelId),
    let u := s.unit ch
    (u.overdue = true → u.overlong = 0 → exec (.pulseOverlong ch) s =
      .next { s.setUnit ch { u with detector := .held 0, overlong := 1 } with link := s.link.raised (channelChange ch) }) ∧
    (u.overdue = true → u.overlong = 1 → u.running = true → ∃ t, exec (.pulseOverlong ch) s = .next t ∧
      UnitBecomes s t ch (settled { u with service := .failed, detector := .quiet, overlong := 2, lastExcess := 0 })) ∧
    (u.overdue = false → exec (.pulseOverlong ch) s = .next s) ∧
    (u.overdue = true → ∀ x, ∃ t, exec (.pulseOverlong ch) s = .next t ∧
      exec (.channelSample ch x) s = exec (.channelSample ch x) t)

/-- Settings that wait for a detector that was QUIET at the commit, and is, are adopted at once (R33, R34), with the change of service
state their enable makes; those that wait for a sample (R30, R33), or for a detector that is not QUIET, are left. For a unit that
supervision failed in mid-attempt that is the model's choice (notes/assumptions/30.md). A sample that leaves the detector QUIET,
a seeding one too (R17), leaves none waiting. -/
def Obligations.WaitingSettingsAdopted : Prop :=
  ∀ (s : State) (ch : ChannelId),
    let u := s.unit ch
    (∀ w, u.detector = .quiet → u.waiting = some w → w.atOnce = true →
      ∃ t, exec (.channelSettingsWaiting ch) s = .next t ∧ UnitBecomes s t ch (settled u)) ∧
    ((u.detector ≠ .quiet ∨ ∀ w, u.waiting = some w → w.atOnce = false) →
      exec (.channelSettingsWaiting ch) s = .next s) ∧
    (∀ x t, u.running = true → u.settings.isSome = true → exec (.channelSample ch x) s = .next t →
      (t.unit ch).running = true → (t.unit ch).detector = .quiet → (t.unit ch).waiting = none)

/-- The delivery of a closed vehicle to the four units of its lane (R28, R29): a vehicle of fewer than two axles, or of quality
STRADDLE, changes no unit; of a supervised one, a running unit that contributed has its miss count cleared and is ACTIVE, one
whose partner contributed to two axles or more misses, to SUSPECT at 8 and FAILED at 32, and every other is as it was.
SERVICE_CHANGE marks each channel whose service state changes (R31), and the lane when its reported state changes (R74). That a unit
failed here while its pulse is marked overdue drops that pulse uncounted is the model's choice (notes/assumptions/13.md). -/
def Obligations.SupervisionJudgesUnits : Prop :=
  ∀ (s : State) (v : Supervision) (rest : List Supervision), s.mail.toUnits = v :: rest →
    ∃ t, exec .channelSupervision s = .next t ∧
      t = { s with lanes := t.lanes, link := t.link, mail := { s.mail with toUnits := rest } } ∧
      (∀ ln, t.matcher ln = s.matcher ln ∧ t.asm ln = s.asm ln) ∧
      (∀ ch, ch.lane ≠ v.lane → t.unit ch = s.unit ch) ∧
      t.link = unitNotices s t (fours.map fun p => ⟨v.lane, p⟩) ∧
      ∀ p : Strip,
        let ch : ChannelId := ⟨v.lane, p⟩
        let partner : ChannelId := ⟨v.lane, match p with | 0 => 1 | 1 => 0 | 2 => 3 | 3 => 2⟩
        let u := s.unit ch
        let own := v.contributed.countP fun l => l.contains ch
        let others := v.contributed.countP fun l => l.contains partner
        t.unit ch =
          if v.contributed.length < 2 ∨ v.quality = .straddle ∨ u.running = false then u
          else if 0 < own then { u with miss := 0, service := .active }
          else if others < 2 then u
          else if 31 ≤ u.miss then { u with miss := 32, service := .failed, detector := .quiet, lastExcess := 0 }
          else if u.miss = 7 ∧ u.service = .active then { u with miss := 8, service := .suspect }
          else { u with miss := u.miss + 1 }

/-- CHANNEL_RESTORE and PROBE_RESTORE (R30, R67): a FAILED channel becomes ACTIVE with clear counts and seeds again, keeping its
settings until that sample, on which it adopts those that wait (SampleOutsideAnAttempt); a FAILED probe enters SEEDING; any
other is unchanged; a number out of range is BAD_VALUE. That the notice comes before the reply in the outgoing queue is the
model's choice (notes/assumptions/32.md). -/
def Obligations.RestoreRequests : Prop :=
  ∀ (s : State) (tag : Byte),
    (∀ ch, (s.unit ch).service = .failed →
      ∃ m t, exec (.channelRestore tag [BitVec.ofNat 8 (channelNumber ch)]) s = .next t ∧
        UnitBecomes s m ch { s.unit ch with
          service := .active, detector := .quiet, overlong := 0, miss := 0, seed := true
          waiting := (s.unit ch).waiting.map fun w => { w with atOnce := false } } ∧
        exec (.channelSettingsWaiting ch) m = .next m ∧ OnlyReplied m t 0x05 tag [0x00]) ∧
    (∀ ch, (s.unit ch).service ≠ .failed →
      ∃ t, exec (.channelRestore tag [BitVec.ofNat 8 (channelNumber ch)]) s = .next t ∧ OnlyReplied s t 0x05 tag [0x00]) ∧
    (∀ b : Byte, b.toNat = 0 ∨ 16 < b.toNat →
      ∃ t, exec (.channelRestore tag [b]) s = .next t ∧ OnlyReplied s t 0x05 tag [0x04]) ∧
    (∀ p : ProbeId, (s.probe p).state = .failed →
      ∃ m t, exec (.probeRestore tag [BitVec.ofNat 8 (p.val + 1)]) s = .next t ∧
        m.temp.probes = s.temp.probes.set p { s.probe p with
          state := .seeding, smoothed := none, rejectRun := 0, recovery := none } ∧
        m.temp = { s.temp with
          probes := m.temp.probes, selection := m.temp.selection, tw := m.temp.tw, held := m.temp.held } ∧
        Reselected s.temp m.temp ∧ TallySeesTw s m ∧
        m = { s with temp := m.temp, tally := m.tally, link := s.link.raised (probeChange p) } ∧
        OnlyReplied m t 0x06 tag [0x00]) ∧
    (∀ p : ProbeId, (s.probe p).state ≠ .failed →
      ∃ t, exec (.probeRestore tag [BitVec.ofNat 8 (p.val + 1)]) s = .next t ∧ OnlyReplied s t 0x06 tag [0x00]) ∧
    (∀ b : Byte, b.toNat = 0 ∨ 4 < b.toNat →
      ∃ t, exec (.probeRestore tag [b]) s = .next t ∧ OnlyReplied s t 0x06 tag [0x04])

/-! ## Crossing Matcher -/

/-- The match windows (R44): Δt_min is the least number of ticks in which D × N_ref is covered at v_hi, Δt_max the greatest in which
it is not exceeded at v_lo. -/
def Obligations.WindowsBracketSpeeds : Prop :=
  ∀ (lane : LaneItem) (nRef : Nat), 0 < lane.vLo → 0 < lane.vHi →
    let w := windowsOf lane nRef
    let hi := roundNat (lane.vHi * 10000) 36
    let lo := roundNat (lane.vLo * 10000) 36
    lane.rowSpacing * nRef ≤ w.dtMin * hi ∧ (∀ m, lane.rowSpacing * nRef ≤ m * hi → w.dtMin ≤ m) ∧
    w.dtMax * lo ≤ lane.rowSpacing * nRef ∧ ∀ m, m * lo ≤ lane.rowSpacing * nRef → m ≤ w.dtMax

/-- PULSE_REPORT (R38, R39, R43, R53): in an IN_SERVICE lane the pulse pairs with the first entry of the other side of its row within P
of its onset, into a two-wheel crossing that goes on at once; with none it joins the list by onset, after a full list has
resolved its earliest entry; in an OUT lane nothing comes of it. The lanes left quiet then adopt (R75), each of the four being
tested: the model's choice (notes/assumptions/24.md). -/
def Obligations.PulsePairsOrWaits : Prop :=
  ∀ (s : State) (r : PulseReport) (reports : List PulseReport), s.mail.reports = r :: reports →
    let ln := r.channel.lane
    let row : Row := if r.channel.strip.val < 2 then .one else .two
    let list := (s.matcher ln).list row
    let s' : State := { s with mail := { s.mail with reports := reports } }
    ((s.asm ln).service = .out → exec .pulseReport s = .next s') ∧
    ∀ w, (s.asm ln).service = .inService → (s.asm ln).working = some w →
      let partner : PulseReport → Prop := fun e => e.channel.strip.val % 2 ≠ r.channel.strip.val % 2 ∧
        (ticksSince e.onset r.onset ≤ w.pairWindow ∨ ticksSince r.onset e.onset ≤ w.pairWindow)
      (∀ before e after, list = before ++ e :: after → partner e → (∀ f ∈ before, ¬ partner f) →
        exec .pulseReport s = .next (lanesAdopt ((s'.setHalfList ln row (before ++ after)).formCrossing
          { lane := ln, row := row, onset := if tickBefore r.onset e.onset then r.onset else e.onset
            left := some (if r.channel.strip.val % 2 = 0 then r else e)
            right := some (if r.channel.strip.val % 2 = 0 then e else r)
            straddle := false, missingSide := false }))) ∧
      ((∀ f ∈ list, ¬ partner f) →
        (list.length < 4 →
          exec .pulseReport s = .next (lanesAdopt (s'.setHalfList ln row (insertBy PulseReport.onset r list)))) ∧
        (∀ head tail, list = head :: tail → tail.length = 3 →
          let resolved := (s'.setHalfList ln row tail).resolve ln row head
          exec .pulseReport s = .next (lanesAdopt
            (resolved.setHalfList ln row (insertBy PulseReport.onset r ((resolved.matcher ln).list row))))))

/-- A resolved entry (R41, R42): on an inner edge it forms a straddle crossing of the lower lane with the first entry of the adjoining
side within the lower lane's P; otherwise a single-wheel crossing of its own lane, whose missing-side mark says that the absent
side's channel is not running. -/
def Obligations.ResolvedEntryStraddlesOrStandsAlone : Prop :=
  ∀ (s : State) (row : Row) (r : PulseReport),
    (∀ (low up : LaneId) (w : LaneItem) (before after : List PulseReport) (e : PulseReport), up.val = low.val + 1 →
      (s.asm low).working = some w →
      let near : PulseReport → Prop := fun e =>
        ticksSince e.onset r.onset ≤ w.pairWindow ∨ ticksSince r.onset e.onset ≤ w.pairWindow
      (r.channel.strip.val % 2 = 1 → (s.matcher up).list row = before ++ e :: after → e.channel.strip.val % 2 = 0 → near e →
        (∀ f ∈ before, ¬ (f.channel.strip.val % 2 = 0 ∧ near f)) →
        s.resolve low row r = (s.setHalfList up row (before ++ after)).formCrossing
          { lane := low, row := row, onset := if tickBefore e.onset r.onset then e.onset else r.onset
            left := some r, right := some e, straddle := true, missingSide := false }) ∧
      (r.channel.strip.val % 2 = 0 → (s.matcher low).list row = before ++ e :: after → e.channel.strip.val % 2 = 1 → near e →
        (∀ f ∈ before, ¬ (f.channel.strip.val % 2 = 1 ∧ near f)) →
        s.resolve up row r = (s.setHalfList low row (before ++ after)).formCrossing
          { lane := low, row := row, onset := if tickBefore r.onset e.onset then r.onset else e.onset
            left := some e, right := some r, straddle := true, missingSide := false })) ∧
    (∀ ln : LaneId,
      let isLeft := r.channel.strip.val % 2 = 0
      let absent : ChannelId := ⟨ln, match row, decide isLeft with
        | .one, true => 1 | .one, false => 0 | .two, true => 3 | .two, false => 2⟩
      (∀ other : LaneId, (if isLeft then ln.val = other.val + 1 else other.val = ln.val + 1) →
        ∀ w, (s.asm (if isLeft then other else ln)).working = some w → ∀ f ∈ (s.matcher other).list row,
          f.channel.strip.val % 2 ≠ r.channel.strip.val % 2 →
          w.pairWindow < ticksSince f.onset r.onset ∧ w.pairWindow < ticksSince r.onset f.onset) →
      s.resolve ln row r = s.formCrossing
        { lane := ln, row := row, onset := r.onset, left := if isLeft then some r else none
          right := if isLeft then none else some r, straddle := false, missingSide := !(s.unit absent).running })

/-- A formed crossing (R43, R45, R46, R48 to R50): of row 1 it joins the pending queue by onset, and a ninth one has the oldest of the nine
delivered as a row-1-only axle; of row 2 it is an orphan axle when the queue is empty or the oldest pending crossing is too
close, and otherwise matches the oldest into an axle with its own speed. -/
def Obligations.CrossingQueuesOrMatches : Prop :=
  ∀ (s : State) (c : Crossing),
    let m := s.matcher c.lane
    let onlyRow1 : Crossing → Axle := fun c1 =>
      { lane := c.lane, row1 := some c1, row2 := none, ownSpeed := none, time := c1.onset }
    (c.row = .one →
      (m.queue.length < 8 →
        s.formCrossing c = s.setMatcher c.lane { m with queue := insertBy Crossing.onset c m.queue }) ∧
      (∀ head rest, m.queue = head :: rest → rest.length = 7 →
        (tickBefore c.onset head.onset = true → s.formCrossing c = s.deliver c.lane (onlyRow1 c)) ∧
        (tickBefore c.onset head.onset = false → s.formCrossing c =
          (s.setMatcher c.lane { m with queue := insertBy Crossing.onset c rest }).deliver c.lane (onlyRow1 head)))) ∧
    (∀ w win, c.row = .two → (s.asm c.lane).working = some w → m.windows = some win →
      let speed := match (s.asm c.lane).context.bind Context.lastOwn with
        | some v => v
        | none => (s.asm c.lane).heldSpeed
      let orphan : Axle :=
        { lane := c.lane, row1 := none, row2 := some c, ownSpeed := none
          time := c.onset - BitVec.ofNat 32 (roundNat (w.rowSpacing * s.tb.nRef) (max 2778 speed)) }
      (m.queue = [] → s.formCrossing c = s.deliver c.lane orphan) ∧
      (∀ head rest, m.queue = head :: rest →
        let dt := ticksSince c.onset head.onset
        (dt < win.dtMin ∨ 2 ^ 31 ≤ dt → s.formCrossing c = s.deliver c.lane orphan) ∧
        (win.dtMin ≤ dt → dt < 2 ^ 31 → s.formCrossing c =
          (s.setMatcher c.lane { m with queue := rest }).deliver c.lane
            { lane := c.lane, row1 := some head, row2 := some c
              ownSpeed := some (roundNat (w.rowSpacing * s.tb.nRef) dt), time := head.onset })))

/-- HOLD_EXPIRY (R40) and PENDING_EXPIRY (R47, R48, R50): the first entry of the channel's side leaves its list and is resolved at the
first tick at which T − its end exceeds H; the oldest pending crossing is delivered as a row-1-only axle at the first tick at
which T − its onset exceeds Δt_max; and not before. With no such entry nothing happens. The lanes left quiet then adopt (R75). That
one command takes one entry or crossing and leaves the next that has expired to another (notes/assumptions/23.md), and that each
of the four lanes is tested for adoption (notes/assumptions/24.md), are the model's choice. -/
def Obligations.WaitingEntriesExpire : Prop :=
  (∀ (s : State) (ch : ChannelId) (w : LaneItem), (s.asm ch.lane).working = some w →
    let row : Row := if ch.strip.val < 2 then .one else .two
    let list := (s.matcher ch.lane).list row
    (∀ before e after, list = before ++ e :: after → e.channel.strip.val % 2 = ch.strip.val % 2 →
      (∀ f ∈ before, f.channel.strip.val % 2 ≠ ch.strip.val % 2) →
      (w.hold < ticksSince s.tb.t e.ended → exec (.holdExpiry ch) s =
        .next (lanesAdopt ((s.setHalfList ch.lane row (before ++ after)).resolve ch.lane row e))) ∧
      (ticksSince s.tb.t e.ended ≤ w.hold → exec (.holdExpiry ch) s = .next s)) ∧
    ((∀ f ∈ list, f.channel.strip.val % 2 ≠ ch.strip.val % 2) → exec (.holdExpiry ch) s = .next s)) ∧
  ∀ (s : State) (ln : LaneId),
    ((s.matcher ln).queue = [] → exec (.pendingExpiry ln) s = .next s) ∧
    ∀ win head rest, (s.matcher ln).windows = some win → (s.matcher ln).queue = head :: rest →
      (win.dtMax < ticksSince s.tb.t head.onset → exec (.pendingExpiry ln) s =
        .next (lanesAdopt ((s.setMatcher ln { s.matcher ln with queue := rest }).deliver ln
          { lane := ln, row1 := some head, row2 := none, ownSpeed := none, time := head.onset }))) ∧
      (ticksSince s.tb.t head.onset ≤ win.dtMax → exec (.pendingExpiry ln) s = .next s)

/-- Axles leave in non-decreasing time order (R51): an axle earlier than the delivery mark is delivered with the mark's time, any other
keeps its time, and the mark becomes the time delivered; the mark lapses when T is 2^30 ticks or more past it. That the mark of an
OUT lane lapses too (notes/assumptions/34.md) is the model's choice. -/
def Obligations.AxlesLeaveInTimeOrder : Prop :=
  ∀ (s : State) (ln : LaneId),
    (∀ axle : Axle,
      let time := match (s.matcher ln).mark with
        | some m => if 1 ≤ ticksSince m axle.time ∧ ticksSince m axle.time < 2 ^ 31 then m else axle.time
        | none => axle.time
      s.deliver ln axle = (s.setMatcher ln { s.matcher ln with mark := some time }).takeAxle ln { axle with time := time } ∧
      ((s.deliver ln axle).matcher ln).mark = some time) ∧
    (∀ m, (s.matcher ln).mark = some m → 2 ^ 30 ≤ ticksSince s.tb.t m →
      exec (.deliveryMarkLapse ln) s = .next (s.setMatcher ln { s.matcher ln with mark := none })) ∧
    ((∀ m, (s.matcher ln).mark = some m → ticksSince s.tb.t m < 2 ^ 30) → exec (.deliveryMarkLapse ln) s = .next s)

/-! ## Vehicle Assembler -/

/-- An axle reaches the assembler (R79, R81, R83 to R86): in IDLE it opens a vehicle that latches what the device holds at that moment; in
OPEN it is given its spacing, and is split off when that exceeds S_max, split off as a fourteenth axle, or appended. A split closes
the vehicle and opens the next one, marked split after 13 axles only, whose first axle, where it has no own speed, takes the
held speed that the close has just set. Between the two a lane adopts, but not a generation that disables it while the splitting
axle is in hand: the model's choice (notes/assumptions/7.md). -/
def Obligations.AxleOpensJoinsOrSplits : Prop :=
  ∀ (s : State) (ln : LaneId) (axle : Axle),
    let a := s.asm ln
    let opened : Generation → Nat → Bool → Context := fun g heldSpeed split =>
      { generation := g, tw := s.temp.tw, held := s.temp.held, band := bandOf s.temp.tw
        kd := (s.driftBand ln (bandOf s.temp.tw)).kd, openTick := s.tb.t, lastTick := s.tb.t, fell := false, split := split
        axles := [{ axle := axle, eff := axle.ownSpeed.getD heldSpeed, spacing := none }] }
    (∀ g, a.context = none → a.adopted = some g → s.takeAxle ln axle =
      (s.setAsm ln { a with context := some (opened g a.heldSpeed false) }).captureOpen ln axle.time) ∧
    (∀ ctx w front (last : ContextAxle), a.context = some ctx → a.working = some w → ctx.axles = front ++ [last] →
      let eff := axle.ownSpeed.getD
        (((ctx.axles.filterMap fun x => x.axle.ownSpeed).getLast?).getD a.heldSpeed)
      let spacing := roundNat (roundNat (eff + last.eff) 2 * ticksSince axle.time last.axle.time) s.tb.nRef
      let own := ctx.axles.filterMap fun x => x.axle.ownSpeed
      let held := if own = [] then a.heldSpeed else max 2778 (min 55556 (roundNat own.sum own.length))
      let reopens : State → Bool → Prop := fun closed split =>
        let u := splitAdopts closed ln
        (closed.asm ln).heldSpeed = held ∧ (a.service = .inService → (u.asm ln).heldSpeed = held) ∧
        ∀ g, (u.asm ln).adopted = some g → s.takeAxle ln axle =
          (u.setAsm ln { u.asm ln with context := some (opened g (u.asm ln).heldSpeed split) }).captureOpen ln axle.time
      (w.sMax < spacing → reopens (vehicleClosed s ln ctx (w.loop && !ctx.fell) false) false) ∧
      (spacing ≤ w.sMax → 13 ≤ ctx.axles.length → reopens (vehicleClosed s ln { ctx with split := true } false false) true) ∧
      (spacing ≤ w.sMax → ctx.axles.length < 13 →
        let joined : Context := { ctx with
          lastTick := s.tb.t
          axles := front ++ [{ last with spacing := some spacing }, { axle := axle, eff := eff, spacing := none }] }
        s.takeAxle ln axle = s.setAsm ln { a with context := some joined }))

/-- GAP_WITH_LOOP, GAP_WITHOUT_LOOP and TIMEOUT (R82, R87 to R91, R160): when its condition holds each closes the open vehicle: the record is
completed with the next serial and set on its way to the five consumers, the held speed follows the vehicle's own, the
assembler is IDLE, and the lanes left quiet adopt (R75), each of the four being tested: the model's choice
(notes/assumptions/24.md); otherwise each leaves the vehicle open. What the record holds is in RecordIsStamped and the statements
on weighing, classing and checks. -/
def Obligations.SilentVehicleCloses : Prop :=
  ∀ (s : State) (ln : LaneId) (ctx : Context) (w : LaneItem), (s.asm ln).context = some ctx → (s.asm ln).working = some w →
    let a := s.asm ln
    let closed : Bool → State := fun timeout => lanesAdopt (vehicleClosed s ln ctx false timeout)
    let silent : Bool → Prop := fun loop => w.loop = loop ∧ (loop = true → a.presence = false) ∧ (s.matcher ln).queue = [] ∧
      (if loop then w.gapLoop else w.gapNoLoop) ≤ ticksSince s.tb.t ctx.lastTick
    let late := w.openLimit * s.tb.nRef ≤ ticksSince s.tb.t ctx.openTick
    (silent true → exec (.gapWithLoop ln) s = .next (closed false)) ∧
    (¬ silent true → exec (.gapWithLoop ln) s = .next s) ∧
    (silent false → exec (.gapWithoutLoop ln) s = .next (closed false)) ∧
    (¬ silent false → exec (.gapWithoutLoop ln) s = .next s) ∧
    (late → exec (.timeout ln) s = .next (closed true)) ∧
    (¬ late → exec (.timeout ln) s = .next s)

/-- PRESENCE_SAMPLE (R77, R78): a sample that agrees with the presence state clears the run, the fiftieth in a row that disagrees changes
the state, and a change to OFF on a lane with a loop sets the presence-fell flag of the open vehicle. -/
def Obligations.PresenceIsDebounced : Prop :=
  ∀ (s : State) (ln : LaneId) (level : Bool),
    let a := s.asm ln
    (level = a.presence → exec (.presenceSample ln level) s = .next (s.setAsm ln { a with presenceRun := 0 })) ∧
    (level ≠ a.presence → a.presenceRun < 49 →
      exec (.presenceSample ln level) s = .next (s.setAsm ln { a with presenceRun := a.presenceRun + 1 })) ∧
    (level ≠ a.presence → 49 ≤ a.presenceRun → exec (.presenceSample ln level) s = .next (s.setAsm ln { a with
      presence := level, presenceRun := 0
      context :=
        if level = false ∧ a.working.any LaneItem.loop = true then a.context.map fun c => { c with fell := true }
        else a.context }))

/-- A quiet lane adopts a newer active generation (R37, R44, R52, R75, R76, R154): settings, windows and service state follow the generation, the
held speed starts at the fallback when the lane comes in from OUT, and the retiring generation is freed when no lane holds it
any longer; SERVICE_CHANGE marks the lane when its reported state changes (R74), and a Capture Unit armed for a lane that goes
OUT, or recording it, is IDLE and empty (R178), after the test of the lane's records still on their way to it. A lane that is not
quiet, or holds the active generation, does not adopt. That a pulse report on its way to the lane's matcher keeps it from being
quiet (notes/assumptions/6.md), and that the Capture Unit learns of the lane behind those records (notes/assumptions/35.md), are the
model's choice. -/
def Obligations.QuietLaneAdopts : Prop :=
  ∀ (s : State) (ln : LaneId) (g : Generation), s.tables.active = some g →
    let a := s.asm ln
    let w := g.set.lanes.get ln
    let isQuiet := a.context = none ∧ (s.matcher ln).list1 = [] ∧ (s.matcher ln).list2 = [] ∧ (s.matcher ln).queue = [] ∧
      ∀ r ∈ s.mail.reports, r.channel.lane ≠ ln
    let newer := ∀ h, a.adopted = some h → h.number ≠ g.number
    (isQuiet → newer →
      let t := s.adoptIfQuiet ln
      t.asm ln = { a with
        adopted := some g, working := some w, service := if w.enabled then .inService else .out
        heldSpeed := if a.service = .out ∧ w.enabled = true then roundNat (w.fallback * 10000) 36 else a.heldSpeed } ∧
      t.matcher ln = { s.matcher ln with windows := some (windowsOf w s.tb.nRef) } ∧
      (∀ k, k ≠ ln → t.lanes.get k = s.lanes.get k) ∧
      (∀ old, s.tables.retiring = some old →
        ((∃ k h, (t.asm k).adopted = some h ∧ h.number = old.number) → t.tables = s.tables) ∧
        ((∀ k h, (t.asm k).adopted = some h → h.number ≠ old.number) →
          t.tables = { s.tables with retiring := none })) ∧
      (s.tables.retiring = none → t.tables = s.tables) ∧
      (if a.service = .inService ∧ w.enabled = false then CaptureToldOut s t ln
        else t.capture = s.capture ∧ t.mail = s.mail) ∧
      t.link =
        (if (t.lanes.get ln).reported = (s.lanes.get ln).reported then s.link else s.link.raised (laneChange ln)) ∧
      t = { s with
        lanes := t.lanes, tables := t.tables, capture := t.capture, link := t.link
        mail := { s.mail with toCapture := t.mail.toCapture } }) ∧
    (s.quiet ln = true ↔ isQuiet) ∧ (¬ isQuiet ∨ ¬ newer → s.adoptIfQuiet ln = s) ∧
    ∀ u : State, u.tables.active = none → u.adoptIfQuiet ln = u

/-! ## Wheel and axle loads, classing and checks -/

/-- The axle entries of a closed vehicle (R95 to R98, R100 to R104, R106 to R108, R110): every pulse is weighed at its axle's effective
speed and the N_ref of the close, with its channel's sensitivity and the factors Kv, Kt and Kd, each product rounded and
clamped in turn; row, axle and reported wheel loads are formed from the wheels; spacing, own speed, row mark, straddle mark and
single-wheel mark are the axle's (R48, R162). -/
def Obligations.AxlesAreWeighed : Prop :=
  ∀ (tb : Timebase) (serial : Option Nat) (ln : LaneId) (ctx : Context) (tailgate timeout : Bool) (i : Nat) (x : ContextAxle),
    ctx.axles[i]? = some x →
    let set := ctx.generation.set
    let own := ctx.axles.filterMap fun y => y.axle.ownSpeed
    let kv := speedFactor (ctx.generation.speedMm.get ln) (if own = [] then x.eff else roundNat own.sum own.length)
    let kt := tempFactor set.tempTab ctx.tw
    let wheel : PulseReport → Nat := fun p =>
      let r := min 4294967295 (roundNat (p.area * x.eff) tb.nRef)
      let w0 := min 65535 (roundNat (r * ((set.channels.get p.channel.lane).get p.channel.strip).sensitivity) 16777216)
      let w1 := min 65535 (roundNat (w0 * kv) 16384)
      let w2 := min 65535 (roundNat (w1 * kt) 16384)
      min 32767 (min 65535 (roundNat (w2 * ctx.kd) 16384))
    let side : Option PulseReport → Nat := fun p => (p.map wheel).getD 0
    let row : Crossing → Nat := fun c => side c.left + side c.right
    let both : Option PulseReport → Option PulseReport → Nat := fun p q =>
      if p = none ∨ q = none then side p + side q else roundNat (side p + side q) 2
    (∀ c, row c ≤ 65534) ∧ ∃ e, (completeRecord tb serial ln ctx tailgate timeout).axles[i]? = some e ∧
      e.load ≤ 65534 ∧ e.left ≤ 32767 ∧ e.right ≤ 32767 ∧ e.spacing = x.spacing ∧
      e.speed = x.axle.ownSpeed.map (fun v => roundNat (v * 36) 1000) ∧
      (let present : Crossing → Prop := fun c => x.axle.row1 = some c ∨ x.axle.row2 = some c
       let single : Crossing → Prop := fun c => c.left = none ∨ c.right = none
       (e.straddle = true ↔ ∃ c, present c ∧ c.straddle = true) ∧
       ((∃ c, present c ∧ single c ∧ c.missingSide = true) → e.single = .sideOut) ∧
       ((∀ c, present c → single c → c.missingSide = false) → (∃ c, present c ∧ single c) → e.single = .wheelMissed) ∧
       ((∀ c, present c → ¬ single c) → e.single = .clear)) ∧
      (∀ c1 c2, x.axle.row1 = some c1 → x.axle.row2 = some c2 →
        e.load = roundNat (row c1 + row c2) 2 ∧ e.left = both c1.left c2.left ∧ e.right = both c1.right c2.right ∧
        e.row = .both) ∧
      (∀ c, x.axle.row1 = some c → x.axle.row2 = none →
        e.load = row c ∧ e.left = side c.left ∧ e.right = side c.right ∧ e.row = .row1) ∧
      (∀ c, x.axle.row1 = none → x.axle.row2 = some c →
        e.load = row c ∧ e.left = side c.left ∧ e.right = side c.right ∧ e.row = .row2)

/-- Interpolation in a table of two points or more, in increasing order (R61, R99). Of factors, the end ones are held beyond the table;
a probe's f10 beyond its table is out of range. Within it the rule's formula holds between two neighbours, a point gives its own
value, and the result lies between its neighbours. Of a shorter factor table nothing is said (notes/assumptions/20.md). The nine
factors of a TEMPTAB stand at −20.0 °C to 60.0 °C, 10.0 °C apart (R101), and a speed factor is read at a speed in mm/s (R100). -/
def Obligations.TablesAreInterpolated : Prop :=
  (∀ (points : List (Int × Nat)) (x : Int), 2 ≤ points.length → points.Pairwise (fun a b => a.1 < b.1) →
    let k := interpolate points x
    (∀ a, points.head? = some a → x ≤ a.1 → k = a.2) ∧
    (∀ b, points.getLast? = some b → b.1 ≤ x → k = b.2) ∧
    (∀ a ∈ points, x = a.1 → k = a.2) ∧
    (∀ before a b after, points = before ++ a :: b :: after → a.1 ≤ x → x < b.1 →
      (k : Int) = a.2 + roundInt (((b.2 : Int) - a.2) * (x - a.1)) (b.1 - a.1).toNat ∧
      min a.2 b.2 ≤ k ∧ k ≤ max a.2 b.2) ∧
    ((∀ a ∈ points, 8192 ≤ a.2 ∧ a.2 ≤ 32767) → 8192 ≤ k ∧ k ≤ 32767)) ∧
  (∀ (factors : List Nat) (tw : Int), factors.length = 9 →
    let kt := tempFactor factors tw
    (∀ (i k : Nat), factors[i]? = some k → tw = 100 * (i : Int) - 200 → kt = k) ∧
    (∀ k, factors.head? = some k → tw ≤ -200 → kt = k) ∧ (∀ k, factors.getLast? = some k → 600 ≤ tw → kt = k) ∧
    ∀ (i k1 k2 : Nat), factors[i]? = some k1 → factors[i + 1]? = some k2 →
      100 * (i : Int) - 200 ≤ tw → tw < 100 * (i : Int) - 100 →
      (kt : Int) = k1 + roundInt (((k2 : Int) - k1) * (tw - (100 * (i : Int) - 200))) 100) ∧
  (∀ (points : List (Nat × Nat)) (v : Nat), speedFactor points v = interpolate (points.map fun p => ((p.1 : Int), p.2)) v) ∧
  ∀ (points : List (Nat × Int)) (f : Nat), 2 ≤ points.length → points.Pairwise (fun a b => a.1 < b.1) →
    (∀ a, points.head? = some a → f < a.1 → convert points f = none) ∧
    (∀ b, points.getLast? = some b → b.1 < f → convert points f = none) ∧
    ∀ before a b after, points = before ++ a :: b :: after → a.1 ≤ f → f ≤ b.1 →
      ∃ v, convert points f = some v ∧ v = a.2 + roundInt ((b.2 - a.2) * ((f : Int) - a.1)) (b.1 - a.1) ∧
        min a.2 b.2 ≤ v ∧ v ≤ max a.2 b.2

/-- The totals of a record (R104, R106 to R109): the GVW is the sum of the axle loads and the wheelbase the sum of the spacings, each
load within its limit; so a vehicle of 13 axles at most has a GVW of 851 942 kg at most, and one of 12 spacings at most, each
within the greatest S_max, a wheelbase of 240 000 mm at most. -/
def Obligations.RecordTotals : Prop :=
  ∀ (tb : Timebase) (serial : Option Nat) (ln : LaneId) (ctx : Context) (tailgate timeout : Bool),
    let r := completeRecord tb serial ln ctx tailgate timeout
    r.axles.length = ctx.axles.length ∧
    (∀ e ∈ r.axles, e.load ≤ 65534 ∧ e.left ≤ 32767 ∧ e.right ≤ 32767) ∧
    r.gvw = (r.axles.map AxleEntry.load).sum ∧ r.wheelbase = (r.axles.filterMap AxleEntry.spacing).sum ∧
    (ctx.axles.length ≤ 13 → r.gvw ≤ 851942) ∧
    ((r.axles.filterMap AxleEntry.spacing).length ≤ 12 → (∀ d ∈ r.axles.filterMap AxleEntry.spacing, d ≤ 20000) →
      r.wheelbase ≤ 240000) ∧
    (∀ x, ctx.axles = [x] → x.spacing = none → r.wheelbase = 0)

/-- The class and the enforcement flags of a record (R115 to R117, R127 to R129): the first rule in index order whose every constraint
is met gives the class and, where it holds them, the limits; with no rule that fits the class is 0 and the site's limits
apply; and the lane's permit mask bans the class whose flag is clear. -/
def Obligations.ClassIsFirstFit : Prop :=
  ∀ (tb : Timebase) (serial : Option Nat) (ln : LaneId) (ctx : Context) (tailgate timeout : Bool),
    let r := completeRecord tb serial ln ctx tailgate timeout
    let set := ctx.generation.set
    let cm := (r.axles.filterMap AxleEntry.spacing).map fun mm => roundNat mm 10
    let first := (r.axles.head?.map AxleEntry.load).getD 0
    let fits : ClassRule → Prop := fun c =>
      c.axles.min ≤ r.axles.length ∧ r.axles.length ≤ c.axles.max ∧
      (∀ (j : Nat) (b : Bounds), c.spacings[j]? = some b → ∃ d, cm[j]? = some d ∧ b.min ≤ d ∧ d ≤ b.max) ∧
      (∀ b, c.gvw = some b → b.min ≤ r.gvw ∧ r.gvw ≤ b.max) ∧ (∀ m, c.minFirstAxle = some m → m ≤ first)
    let flagged : Nat → Nat → Prop := fun axleLimit gvwLimit =>
      (r.flags.axleOver = true ↔ ∃ e ∈ r.axles, axleLimit < e.load) ∧ (r.flags.gvwOver = true ↔ gvwLimit < r.gvw)
    (∀ before c after, set.classes = before ++ some c :: after → fits c → (∀ d, some d ∈ before → ¬ fits d) →
      r.cls = c.code ∧ flagged (c.axleLimit.getD set.site.axleLimit) (c.gvwLimit.getD set.site.gvwLimit)) ∧
    ((∀ c, some c ∈ set.classes → ¬ fits c) → r.cls = 0 ∧ flagged set.site.axleLimit set.site.gvwLimit) ∧
    (r.flags.laneBanned = true ↔ (set.lanes.get ln).permit.getLsbD r.cls = false)

/-- The quality of a record (R105, R118 to R124): the first of the nine checks that fails names it, and a vehicle that passes all nine
is GOOD. Row loads and the offscale finding are those of the weighing at the close. -/
def Obligations.QualityIsFirstFailure : Prop :=
  ∀ (tb : Timebase) (serial : Option Nat) (ln : LaneId) (ctx : Context) (tailgate timeout : Bool),
    let r := completeRecord tb serial ln ctx tailgate timeout
    let lane := ctx.generation.set.lanes.get ln
    let own := ctx.axles.filterMap fun y => y.axle.ownSpeed
    let speed := roundNat own.sum own.length
    let weighed := ctx.axles.map (weighAxle ctx ln (if own = [] then none else some speed) tb.nRef)
    let present : ContextAxle → Crossing → Prop := fun x c => x.axle.row1 = some c ∨ x.axle.row2 = some c
    let check1 := ctx.axles.length = 1
    let check2 := ∃ x ∈ ctx.axles, ∃ c, present x c ∧ (c.left = none ∨ c.right = none)
    let check3 := ∃ x ∈ ctx.axles, ∃ c, present x c ∧ c.straddle = true
    let check4 := own = [] ∨ speed < roundNat (lane.validLow * 10000) 36 ∨ roundNat (lane.validHigh * 10000) 36 < speed
    let check5 := ∃ v w, own.head? = some v ∧ own.getLast? = some w ∧ lane.accelTol * speed < ((w : Int) - v).natAbs * 1000
    let check6 := ∃ x ∈ ctx.axles, x.axle.row1 = none ∨ x.axle.row2 = none
    let check7 := ∃ a ∈ weighed, ∃ p q, a.row1 = some p ∧ a.row2 = some q ∧ 0 < a.load ∧
      lane.rowTol * a.load < ((p.rowLoad : Int) - q.rowLoad).natAbs * 100
    let check8 := ∃ a ∈ weighed, ∃ p w, (a.row1 = some p ∨ a.row2 = some p) ∧ (p.left = some w ∨ p.right = some w) ∧
      w.offscale = true
    let passed3 := ¬ check1 ∧ ¬ check2 ∧ ¬ check3
    let passed6 := passed3 ∧ ¬ check4 ∧ ¬ check5 ∧ ¬ check6
    (check1 → r.quality = .fragment) ∧
    (¬ check1 → check2 → r.quality = .incomplete) ∧
    (¬ check1 → ¬ check2 → check3 → r.quality = .straddle) ∧
    (passed3 → check4 → r.quality = .speedRange) ∧
    (passed3 → ¬ check4 → check5 → r.quality = .acceleration) ∧
    (passed3 → ¬ check4 → ¬ check5 → check6 → r.quality = .singleRow) ∧
    (passed6 → check7 → r.quality = .rowDisagree) ∧
    (passed6 → ¬ check7 → check8 → r.quality = .offscale) ∧
    (passed6 → ¬ check7 → ¬ check8 → r.quality = if ctx.split then .split else .good) ∧
    r.split = ctx.split ∧
    (∀ (p : PulseReport) (va nRef sch kv kt kd : Nat),
      let raw := roundNat (p.area * va) nRef
      let w0 := roundNat (min 4294967295 raw * sch) 16777216
      let w1 := roundNat (min 65535 w0 * kv) 16384
      let w2 := roundNat (min 65535 w1 * kt) 16384
      let w3 := roundNat (min 65535 w2 * kd) 16384
      (weighWheel p va nRef sch kv kt kd).offscale = true ↔
        p.clipped = true ∨ p.area = 2147483647 ∨ 4294967295 < raw ∨ 65535 < w0 ∨ 65535 < w1 ∨ 65535 < w2 ∨ 65535 < w3 ∨
        32767 < w3)

/-! ## Pavement Temperature Unit -/

/-- A probe takes a reading according to its state (R62 to R66): ABSENT is left alone; NO_SIGNAL fails a probe at once, keeping its
smoothed value; SEEDING is seeded by the first reading in range; GOOD and SUSPECT accept a reading within J and move towards
it by 1 / 2^q; four rejects in a row fail the probe; and FAILED recovers by eight readings in range, each within J of the one
before. -/
def Obligations.ProbeJudgesReading : Prop :=
  ∀ (p : Probe) (r : Reading) (q jump : Nat),
    let failed : Probe := { p with state := .failed, rejectRun := 0, recovery := none }
    let good : Int → Probe := fun v => { p with state := .good, smoothed := some v, rejectRun := 0, recovery := none }
    let rejected : ProbeState → Probe := fun st =>
      if 3 ≤ p.rejectRun then failed else { p with state := st, rejectRun := p.rejectRun + 1 }
    let inRun : Nat → Int → Probe := fun n v => { p with recovery := some { count := n, latest := v } }
    (p.state = .absent → p.judge r q jump = p) ∧
    (p.state = .seeding → (∀ v, p.judge (.temp v) q jump = good v) ∧ p.judge .outOfRange q jump = rejected .seeding) ∧
    (p.state = .good ∨ p.state = .suspect →
      p.judge .outOfRange q jump = rejected .suspect ∧
      ∀ v old, p.smoothed = some old →
        ((v - old).natAbs ≤ jump → p.judge (.temp v) q jump = good (old + roundInt (v - old) (2 ^ q))) ∧
        (jump < (v - old).natAbs → p.judge (.temp v) q jump = rejected .suspect)) ∧
    (p.state = .seeding ∨ p.state = .good ∨ p.state = .suspect → p.judge .noSignal q jump = failed) ∧
    (p.state = .failed →
      p.judge .outOfRange q jump = { p with recovery := none } ∧ p.judge .noSignal q jump = { p with recovery := none } ∧
      ∀ v,
        (p.recovery = none → p.judge (.temp v) q jump = inRun 1 v) ∧
        (∀ n last, p.recovery = some { count := n, latest := last } →
          (jump < (v - last).natAbs → p.judge (.temp v) q jump = inRun 1 v) ∧
          ((v - last).natAbs ≤ jump → n < 7 → p.judge (.temp v) q jump = inRun (n + 1) v) ∧
          ((v - last).natAbs ≤ jump → 7 ≤ n → p.judge (.temp v) q jump = good v)))

/-- A rising edge of a probe's oscillator is counted (R58); and a gate that has run its G ticks ends (R58, R59, R68, R71): its probe
takes f10 and the reading, the selection follows, and the next gate starts on this tick for the next probe with a role. A gate
that has not run out, or none, is left alone. -/
def Obligations.GateCountsAndEnds : Prop :=
  ∀ s : State,
    (∀ p, exec (.probeEdge p) s = .next { s with temp := { s.temp with
      probes := s.temp.probes.set p { s.probe p with edges := (s.probe p).edges + 1 } } }) ∧
    (∀ g, s.temp.gate = some g → g.length ≤ ticksSince s.tb.t g.start →
      let x := s.probe g.probe
      let count := min 16777215 (x.edges - g.base)
      let f10 := min 4294967295 (roundNat (10 * count * s.tb.nRef) g.length)
      let reading : Reading :=
        if count = 0 then .noSignal
        else match convert x.points f10 with
          | some v => .temp v
          | none => .outOfRange
      let x' := { x with lastF10 := some f10, lastReading := some reading }.judge reading s.temp.q s.temp.jump
      ∃ t, exec .gateEnd s = .next t ∧
        t.temp = { s.temp with
          probes := s.temp.probes.set g.probe x'
          gate := t.temp.gate, selection := t.temp.selection, tw := t.temp.tw, held := t.temp.held } ∧
        GateStarts t (turnsFrom g.probe) ∧ Reselected s.temp t.temp ∧ TallySeesTw s t ∧
        t.link = (if x'.state = x.state then s.link else s.link.raised (probeChange g.probe)) ∧
        t = { s with temp := t.temp, tally := t.tally, link := t.link }) ∧
    ((∀ g, s.temp.gate = some g → ticksSince s.tb.t g.start < g.length) → exec .gateEnd s = .next s)

/-- The Temperature Unit takes the oldest offer of a commit (R57, R58, R60, R68, R71): G, q and J, each probe by the table of R57 with a
notice where its state or role changes, the selection, and the gate: started when none ran, for the next probe when its own
has lost its role, and otherwise running on. -/
def Obligations.ProbeSettingsTaken : Prop :=
  ∀ s : State,
    (s.mail.tempOffers = [] → exec .probeSettingsTake s = .next s) ∧
    ∀ set rest, s.mail.tempOffers = set :: rest →
      ∃ t, exec .probeSettingsTake s = .next t ∧
        (∀ p,
          let x := s.probe p
          let item := set.probes.get p
          let y := { x with role := item.role, points := item.points }
          t.probe p =
            if x.role = .none ∧ item.role = .none then y
            else if item.role = .none then
              { y with state := .absent, smoothed := none, lastF10 := none, lastReading := none, rejectRun := 0, recovery := none }
            else if x.role ≠ .none ∧ x.points = item.points then y
            else { y with state := .seeding, smoothed := none, rejectRun := 0, recovery := none }) ∧
        t.temp = { s.temp with
          probes := t.temp.probes, gate := t.temp.gate, selection := t.temp.selection, tw := t.temp.tw, held := t.temp.held
          gateLength := set.site.gate, q := set.site.q, jump := set.site.jump } ∧
        Reselected s.temp t.temp ∧ TallySeesTw s t ∧
        (s.temp.gate = none → GateStarts t fours) ∧
        (∀ g, s.temp.gate = some g →
          ((t.probe g.probe).role ≠ .none → t.temp.gate = some g) ∧
          ((t.probe g.probe).role = .none → GateStarts t (turnsFrom g.probe))) ∧
        t.link = fours.foldl (fun l p =>
          if (t.probe p).state = (s.probe p).state ∧ (t.probe p).role = (s.probe p).role then l
          else l.raised (probeChange p)) s.link ∧
        t = { s with temp := t.temp, tally := t.tally, link := t.link, mail := { s.mail with tempOffers := rest } }

/-- The band of a temperature (R70). -/
def Obligations.BandsOfTemperature : Prop :=
  ∀ tw : Int,
    (tw < -100 → bandOf tw = 0) ∧ (-100 ≤ tw → tw ≤ -1 → bandOf tw = 1) ∧ (0 ≤ tw → tw ≤ 99 → bandOf tw = 2) ∧
    (100 ≤ tw → tw ≤ 199 → bandOf tw = 3) ∧ (200 ≤ tw → tw ≤ 299 → bandOf tw = 4) ∧
    (300 ≤ tw → tw ≤ 399 → bandOf tw = 5) ∧ (400 ≤ tw → tw ≤ 499 → bandOf tw = 6) ∧ (500 ≤ tw → bandOf tw = 7)

/-! ## Drift Tracker -/

/-- DRIFT_FEED (R134 to R137): a record that is no feed changes nothing in the tracker; a feed outside the window is counted as
rejected, one within it joins its batch, and one that fills the batch updates the factor in the five steps of R136, empties
the batch and raises DRIFT_UPDATED. -/
def Obligations.DriftFeedJudged : Prop :=
  ∀ s : State,
    (s.mail.toDrift = [] → exec .driftFeed s = .next s) ∧
    ∀ r rest, s.mail.toDrift = r :: rest →
      let d := s.drift.policy
      let s' : State := { s with mail := { s.mail with toDrift := rest } }
      let isFeed := d.refClass ≠ 0 ∧ r.cls = d.refClass ∧ r.quality = .good ∧ r.conditions.tempHeld = false ∧
        (s.drift.lanes.get r.lane).frozen = false
      let b := bandOf r.tw
      let x := s.driftBand r.lane b
      (¬ isFeed → exec .driftFeed s = .next s') ∧
      ∀ e es, isFeed → r.axles = e :: es →
        let away := ((e.load : Int) - d.target).natAbs * 100
        (d.window * d.target < away → exec .driftFeed s =
          .next (s'.setDriftBand r.lane b { x with rejected := min 65535 (x.rejected + 1) })) ∧
        (away ≤ d.window * d.target → x.n + 1 < d.batch → exec .driftFeed s =
          .next (s'.setDriftBand r.lane b { x with sum := x.sum + e.load, n := x.n + 1 })) ∧
        (away ≤ d.window * d.target → d.batch ≤ x.n + 1 →
          let mean := roundNat (x.sum + e.load) d.batch
          let err := roundInt (16384 * ((d.target : Int) - mean)) mean
          let limit : Int := roundNat (d.maxStep * 16384) 1000
          let step := max (-limit) (min limit (roundInt (err * d.gain) 256))
          let kd := max 12288 (min 20480 (roundInt (x.kd * (16384 + step)) 16384).toNat)
          exec .driftFeed s = .next { s'.setDriftBand r.lane b { x with kd := kd, sum := 0, n := 0 } with
            link := s.link.raised (.driftUpdated ((Four.fill 0).set r.lane (BitVec.twoPow 8 b.val))) })

/-- The Drift Tracker takes the oldest offer of a commit (R132, R141, R142): the policy; with the drift-reset flag every factor at
16 384 and every sum and count 0; without it, batches emptied where class, target, window or batch size changed. The Tally
Unit and the Record Store take theirs (R165, R170): the interval; and the threshold, which may raise RECORDS_READY or re-arm
it. -/
def Obligations.CommitOffersTaken : Prop :=
  ∀ s : State,
    (s.mail.driftOffers = [] → exec .driftPolicyTake s = .next s) ∧
    (∀ o rest, s.mail.driftOffers = o :: rest →
      let d := s.drift.policy
      ∃ t, exec .driftPolicyTake s = .next t ∧ t.drift.policy = o.policy ∧
        (∀ ln, (t.drift.lanes.get ln).frozen = (s.drift.lanes.get ln).frozen) ∧
        (∀ ln b, t.driftBand ln b =
          let x := s.driftBand ln b
          if o.reset then { kd := 16384, sum := 0, n := 0, rejected := 0 }
          else if o.policy.refClass = d.refClass ∧ o.policy.target = d.target ∧ o.policy.window = d.window ∧
              o.policy.batch = d.batch then x
          else { x with sum := 0, n := 0 }) ∧
        t = { s with drift := t.drift, mail := { s.mail with driftOffers := rest } }) ∧
    (s.mail.siteOffers = [] → exec .siteSettingsTake s = .next s) ∧
    (∀ site rest, s.mail.siteOffers = site :: rest →
      let held := s.store.held
      let raises := s.store.armed = true ∧ site.threshold ≤ held.length
      let rearms := s.store.armed = false ∧ held.length < site.threshold
      let fresh : State := { s with
        mail := { s.mail with siteOffers := rest }
        tally := { s.tally with interval := site.interval }
        store := { s.store with threshold := site.threshold } }
      (raises → exec .siteSettingsTake s = .next { fresh with
        store := { fresh.store with armed := false }
        link := s.link.raised (.recordsReady held.length (held.head?.bind VehicleRecord.serial)) }) ∧
      (rearms → exec .siteSettingsTake s = .next { fresh with store := { fresh.store with armed := true } }) ∧
      (¬ raises → ¬ rearms → exec .siteSettingsTake s = .next fresh))

/-- DRIFT_FREEZE and DRIFT_SET (R138, R140): a freeze sets or clears the lane's frozen flag; a set gives the factor and empties the
batch of its lane and band, and keeps the rejected count; a lane, band, setting or factor out of its range is BAD_VALUE with
nothing changed. -/
def Obligations.DriftRequests : Prop :=
  ∀ (s : State) (tag : Byte),
    (∀ (ln : LaneId) (on : Bool), ∃ t,
      exec (.driftFreeze tag [BitVec.ofNat 8 (ln.val + 1), if on then 1 else 0]) s = .next t ∧
      OnlyReplied { s with drift := { s.drift with
        lanes := s.drift.lanes.set ln { s.drift.lanes.get ln with frozen := on } } } t 0x1A tag [0x00]) ∧
    (∀ a b : Byte, a.toNat = 0 ∨ 4 < a.toNat ∨ 1 < b.toNat →
      ∃ t, exec (.driftFreeze tag [a, b]) s = .next t ∧ OnlyReplied s t 0x1A tag [0x04]) ∧
    (∀ (ln : LaneId) (b : Band) (kd : Nat), 12288 ≤ kd → kd ≤ 20480 → ∃ t,
      exec (.driftSet tag (BitVec.ofNat 8 (ln.val + 1) :: BitVec.ofNat 8 b.val :: leBytes 2 kd)) s = .next t ∧
      OnlyReplied (s.setDriftBand ln b { s.driftBand ln b with kd := kd, sum := 0, n := 0 }) t 0x19 tag [0x00]) ∧
    (∀ (a b : Byte) (kd : Nat), kd < 65536 → (a.toNat = 0 ∨ 4 < a.toNat ∨ 7 < b.toNat ∨ kd < 12288 ∨ 20480 < kd) →
      ∃ t, exec (.driftSet tag (a :: b :: leBytes 2 kd)) s = .next t ∧ OnlyReplied s t 0x19 tag [0x04])

/-! ## Table Store -/

/-- STAGE_OPEN and STAGE_PUT (R145, R146): in CLOSED an open stages a copy of the active generation, or the default set, and replies its
source; in OPEN it is BUSY. A put of the length its item requires is NO_STAGE in CLOSED; in OPEN an item that its checks
accept replaces the staged item of its identity and no other, and any other body is BAD_VALUE with nothing changed. A body whose
kind or index names no item requires no length, and that it is NO_STAGE in CLOSED, and BAD_VALUE in OPEN only, is the model's
choice (notes/assumptions/19.md). The default set is that of 9.1. -/
def Obligations.StagingRequests : Prop :=
  TableSet.standard =
    { site := { interval := 15, threshold := 8, axleLimit := 11500, gvwLimit := 44000, gate := 10000, q := 3, jump := 30 }
      lanes := Four.fill
        { enabled := true, loop := false, rowSpacing := 3000, vLo := 5, vHi := 250, pairWindow := 60, hold := 200
          sMax := 12000, gapLoop := 3000, gapNoLoop := 10000, openLimit := 30, fallback := 80, validLow := 15
          validHigh := 160, accelTol := 80, rowTol := 20, permit := 0xFFFFFFFF#32 }
      channels := Four.fill (Four.fill
        { enabled := true, k := 2, m := 10, thOn := 400, thOff := 200, cOn := 3, cOff := 4, wMin := 15, wMax := 20000
          sensitivity := 12000 })
      speedTabs := Four.fill [(50, 16384), (150, 16384)]
      tempTab := List.replicate 9 16384
      classes := List.replicate 32 none
      drift := { refClass := 0, target := 6000, window := 30, batch := 32, gain := 64, maxStep := 20 }
      probes := Four.fill { role := .none, points := [] } } ∧
  ∀ (s : State) (tag : Byte),
    (∀ g, s.tables.staging = none → s.tables.active = some g → ∃ t, exec (.stageOpen tag []) s = .next t ∧
      OnlyReplied (s.setStaging (some { set := g.set, source := some g.number })) t 0x10 tag (0x00 :: leBytes 2 g.number)) ∧
    (s.tables.staging = none → s.tables.active = none → ∃ t, exec (.stageOpen tag []) s = .next t ∧
      OnlyReplied (s.setStaging (some { set := TableSet.standard, source := none })) t 0x10 tag [0x00, 0, 0]) ∧
    (∀ x, s.tables.staging = some x → ∃ t, exec (.stageOpen tag []) s = .next t ∧ OnlyReplied s t 0x10 tag [0x01]) ∧
    ∀ body : List Byte, stagePutLength body = true →
      (s.tables.staging = none → ∃ t, exec (.stagePut tag body) s = .next t ∧ OnlyReplied s t 0x11 tag [0x05]) ∧
      ∀ x, s.tables.staging = some x →
        (stagePutItem body = none → ∃ t, exec (.stagePut tag body) s = .next t ∧ OnlyReplied s t 0x11 tag [0x04]) ∧
        ∀ i, stagePutItem body = some i → ∃ t, exec (.stagePut tag body) s = .next t ∧
          OnlyReplied (s.setStaging (some { x with set := x.set.put i })) t 0x11 tag [0x00] ∧ i.ok = true ∧
          (x.set.classes.length = 32 → (x.set.put i).item i.id = i) ∧
          ∀ id, id ≠ i.id → (x.set.put i).item id = x.set.item id

/-- STAGE_DISCARD (R148): NO_STAGE in CLOSED; in OPEN the staged set and its source are dropped and nothing else of the device
changes, and a STAGE_OPEN after it copies the active generation afresh. -/
def Obligations.DiscardDropsStaging : Prop :=
  ∀ (s : State) (tag : Byte),
    (s.tables.staging = none → ∃ t, exec (.stageDiscard tag []) s = .next t ∧ OnlyReplied s t 0x12 tag [0x05]) ∧
    ∀ x, s.tables.staging = some x → ∃ t, exec (.stageDiscard tag []) s = .next t ∧
      OnlyReplied { s with tables := { s.tables with staging := none } } t 0x12 tag [0x00] ∧
      ∀ g, s.tables.active = some g → ∃ u, exec (.stageOpen tag []) t = .next u ∧
        u.tables = { s.tables with staging := some { set := g.set, source := some g.number } }

/-- A STAGE_COMMIT that passes both stages (R33, R75, R76, R150 to R153, R178): the staged set becomes the active generation under the next
number, with its speed tables in mm/s; every channel unit has its settings waiting, enabled when the channel and its lane both are
(R32), to be adopted at once where its detector is QUIET, and the other blocks their offers; the lanes that are quiet adopt it,
the others keep what they have; the Capture Unit is told where its lane goes OUT; and the generation before is retiring while a lane
still holds it. That the notices of the lanes come before the reply in the outgoing queue (notes/assumptions/32.md), and that the
Capture Unit learns that its lane went OUT behind the lane's records on their way to it (notes/assumptions/35.md), are the model's
choice. -/
def Obligations.CommitMakesGeneration : Prop :=
  ∀ (s : State) (tag : Byte) (x : Staging) (reset : Bool), s.GenerationInv → s.tables.staging = some x →
    s.tables.retiring = none → x.set.firstFailure = none →
    let n := if s.tables.counter < 65535 then s.tables.counter + 1 else 1
    let g : Generation :=
      { number := n, set := x.set
        speedMm := x.set.speedTabs.map fun points => points.map fun p => (roundNat (p.1 * 10000) 36, p.2) }
    let kept := ∃ old h ln, s.tables.active = some old ∧ s.quiet ln = false ∧ (s.asm ln).adopted = some h ∧
      h.number = old.number
    ∃ m t, exec (.stageCommit tag [if reset then 1 else 0]) s = .next t ∧
      OnlyReplied m t 0x13 tag (0x00 :: (leBytes 2 n ++ leBytes 2 ((m.tables.retiring.map Generation.number).getD 0))) ∧
      m.tables = { staging := none, active := some g, retiring := m.tables.retiring, counter := n } ∧
      (kept → m.tables.retiring = s.tables.active) ∧ (¬ kept → m.tables.retiring = none) ∧
      (∀ ch,
        let c := (x.set.channels.get ch.lane).get ch.strip
        m.unit ch = { s.unit ch with waiting := some {
          generation := n
          settings :=
            { enabled := c.enabled && (x.set.lanes.get ch.lane).enabled, k := c.k, m := c.m, thOn := c.thOn
              thOff := c.thOff, cOn := c.cOn, cOff := c.cOff, wMin := c.wMin, wMax := c.wMax }
          atOnce := decide ((s.unit ch).detector = .quiet) } }) ∧
      (∀ ln,
        let a := s.asm ln
        let w := x.set.lanes.get ln
        (s.quiet ln = false → m.asm ln = a ∧ m.matcher ln = s.matcher ln) ∧
        (s.quiet ln = true →
          m.asm ln = { a with
            adopted := some g, working := some w, service := if w.enabled then .inService else .out
            heldSpeed := if a.service = .out ∧ w.enabled = true then roundNat (w.fallback * 10000) 36 else a.heldSpeed } ∧
          m.matcher ln = { s.matcher ln with windows := some (windowsOf w s.tb.nRef) })) ∧
      (let goesOut : LaneId → Prop := fun ln =>
        s.quiet ln = true ∧ (s.asm ln).service = .inService ∧ (x.set.lanes.get ln).enabled = false
      (∀ ln, s.capture.lane = some ln → goesOut ln → CaptureToldOut s m ln) ∧
      ((∀ ln, s.capture.lane = some ln → ¬ goesOut ln) →
        m.capture = s.capture ∧ m.mail.toCapture = s.mail.toCapture)) ∧
      m.link = fours.foldl (fun l ln =>
        if (m.lanes.get ln).reported = (s.lanes.get ln).reported then l else l.raised (laneChange ln)) s.link ∧
      m = { s with
        tables := m.tables, lanes := m.lanes, capture := m.capture, link := m.link
        mail := { s.mail with
          toCapture := m.mail.toCapture
          tempOffers := s.mail.tempOffers ++ [x.set]
          driftOffers := s.mail.driftOffers ++ [{ policy := x.set.drift, reset := reset }]
          siteOffers := s.mail.siteOffers ++ [x.set.site] } }

/-- A STAGE_COMMIT that is refused changes nothing but the reply (R149): an undefined flag is BAD_VALUE in either staging state; CLOSED
is NO_STAGE; a retiring generation is BUSY; and the first failing item of the first failing check is named. -/
def Obligations.CommitIsRefused : Prop :=
  ∀ (s : State) (tag : Byte),
    let refused : Byte → List Byte → Prop := fun flags reply =>
      ∃ t, exec (.stageCommit tag [flags]) s = .next t ∧ OnlyReplied s t 0x13 tag reply
    (∀ flags : Byte, 1 < flags.toNat → refused flags [0x04]) ∧
    ∀ flags : Byte, flags.toNat ≤ 1 →
      (s.tables.staging = none → refused flags [0x05]) ∧
      ∀ x, s.tables.staging = some x →
        (∀ g, s.tables.retiring = some g → refused flags [0x01]) ∧
        (s.tables.retiring = none →
          let fails1 : LaneId → Prop := fun n =>
            (x.set.lanes.get n).enabled = true ∧ (x.set.speedTabs.get n).length < 2
          let fails2 : Fin 32 → Prop := fun i => ∃ r, x.set.classes[i.val]? = some (some r) ∧
            (r.axles.min - 1 < r.spacings.length ∨ r.axles.max < r.axles.min ∨ (∃ b ∈ r.spacings, b.max < b.min) ∨
              ∃ b, r.gvw = some b ∧ b.max < b.min)
          let fails3 := x.set.drift.refClass ≠ 0 ∧ ∀ r, some r ∈ x.set.classes → r.code ≠ x.set.drift.refClass
          let role : ProbeId → Role := fun p => (x.set.probes.get p).role
          let fails4 : ProbeId → Prop := fun p =>
            (role p = .primary ∨ role p = .alternate) ∧ ∃ q, q < p ∧ role q = role p
          let fails5 : ProbeId → Prop := fun p => role p ≠ .none ∧ (x.set.probes.get p).points.length < 2
          let pass1 := ∀ n, ¬ fails1 n
          let pass2 := pass1 ∧ ∀ i, ¬ fails2 i
          let pass4 := pass2 ∧ ¬ fails3 ∧ ∀ p, ¬ fails4 p
          (∀ n, fails1 n → (∀ k < n, ¬ fails1 k) → refused flags [0x07, 3, BitVec.ofNat 8 (n.val + 1), 1]) ∧
          (pass1 → ∀ i, fails2 i → (∀ k < i, ¬ fails2 k) → refused flags [0x07, 5, BitVec.ofNat 8 i.val, 2]) ∧
          (pass2 → fails3 → refused flags [0x07, 6, 0, 3]) ∧
          (pass2 → ¬ fails3 → ∀ p, fails4 p → (∀ k < p, ¬ fails4 k) →
            refused flags [0x07, 7, BitVec.ofNat 8 (p.val + 1), 4]) ∧
          (pass4 → ∀ p, fails5 p → (∀ k < p, ¬ fails5 k) → refused flags [0x07, 7, BitVec.ofNat 8 (p.val + 1), 5]) ∧
          (pass4 → (∀ p, ¬ fails5 p) → x.set.firstFailure = none))

/-! ## Record Store and Tally Unit -/

/-- RECORD_STORE_DELIVERY (R161, R165): a record with a serial that finds room joins at the newest end, and RECORDS_READY is raised and
disarmed when the arming is armed and the held count has reached the threshold; any other record is dropped, counted and
reported for its lane. -/
def Obligations.StoreTakesOrDrops : Prop :=
  ∀ s : State,
    (s.mail.toStore = [] → exec .recordStoreDelivery s = .next s) ∧
    ∀ r rest, s.mail.toStore = r :: rest →
      let held := s.store.held ++ [r]
      let fits := r.serial ≠ none ∧ s.store.held.length < 256
      let ready := s.store.armed = true ∧ s.store.threshold ≤ held.length
      let joined : State := { s with
        mail := { s.mail with toStore := rest }, store := { s.store with held := held } }
      (fits → ready → exec .recordStoreDelivery s = .next { joined with
        store := { joined.store with armed := false }
        link := s.link.raised (.recordsReady held.length (held.head?.bind VehicleRecord.serial)) }) ∧
      (fits → ¬ ready → exec .recordStoreDelivery s = .next joined) ∧
      (¬ fits → exec .recordStoreDelivery s = .next { s with
        mail := { s.mail with toStore := rest, drops := s.mail.drops ++ [r.lane] }
        store := { s.store with dropped := min 65535 (s.store.dropped + 1) } })

/-- TALLY_RECORD and TALLY_DROP (R166 to R168): the record is counted in its lane's active tally, each count by one and no higher than
65 535: its class and its quality, its speed bin when it has a speed, its load bins and overload flags when it is GOOD,
LANE_BANNED whenever it carries it, and its single-row axles; a drop counts in its lane's dropped count. The other lanes'
tallies are as they were. A reopened tally has every count 0 and the three temperatures at T_w (R169, R172). -/
def Obligations.TallyCounts : Prop :=
  ∀ s : State,
    let up : Nat → Nat := fun n => min 65535 (n + 1)
    let tallied : LaneId → Tally → State := fun ln y =>
      { s with tally := { s.tally with active := s.tally.active.set ln y } }
    let oneUp : List Nat → List Nat → Nat → Prop := fun old new bin =>
      new.length = old.length ∧ (∀ n, old[bin]? = some n → new[bin]? = some (up n)) ∧
      ∀ i, i ≠ bin → new[i]? = old[i]?
    (∀ tw : Int, Tally.opened tw =
      { classes := List.replicate 32 0, qualities := List.replicate 10 0, speeds := List.replicate 16 0
        gvws := List.replicate 16 0, axleLoads := List.replicate 16 0, axleOver := 0, gvwOver := 0, laneBanned := 0
        spikes := 0, singleRow := 0, dropped := 0, twMin := tw, twMax := tw, twLast := tw }) ∧
    (s.mail.toTally = [] → exec .tallyRecord s = .next s) ∧
    (∀ r rest, s.mail.toTally = r :: rest →
      let x := s.tally.active.get r.lane
      let isGood := r.quality = .good
      ∃ y, exec .tallyRecord s = .next { tallied r.lane y with mail := { s.mail with toTally := rest } } ∧
        oneUp x.classes y.classes r.cls ∧ oneUp x.qualities y.qualities r.quality.code ∧
        (∀ v, r.speed = some v → oneUp x.speeds y.speeds (min 15 (v / 100))) ∧
        (r.speed = none → y.speeds = x.speeds) ∧
        (isGood → oneUp x.gvws y.gvws (min 15 (r.gvw / 5000)) ∧
          (∀ i n, x.axleLoads[i]? = some n → n ≤ 65535 → y.axleLoads[i]? = some
            (min 65535 (n + r.axles.countP fun a => min 15 (a.load / 1000) = i)))) ∧
        (¬ isGood → y.gvws = x.gvws ∧ y.axleLoads = x.axleLoads) ∧
        y.axleLoads.length = x.axleLoads.length ∧
        y = { x with
          classes := y.classes, qualities := y.qualities, speeds := y.speeds, gvws := y.gvws, axleLoads := y.axleLoads
          axleOver := if isGood ∧ r.flags.axleOver = true then up x.axleOver else x.axleOver
          gvwOver := if isGood ∧ r.flags.gvwOver = true then up x.gvwOver else x.gvwOver
          laneBanned := if r.flags.laneBanned then up x.laneBanned else x.laneBanned
          singleRow := min 65535 (x.singleRow + r.axles.countP fun a => a.row ≠ .both) }) ∧
    (s.mail.drops = [] → exec .tallyDrop s = .next s) ∧
    (∀ ln rest, s.mail.drops = ln :: rest →
      let x := s.tally.active.get ln
      exec .tallyDrop s = .next { tallied ln { x with dropped := up x.dropped } with
        mail := { s.mail with drops := rest } })

/-- RECORD_RELEASE and TALLY_RELEASE (R164, R165, R171): a serial that is not yet assigned is BAD_VALUE with nothing changed; any other
releases every held record up to it, re-arms RECORDS_READY when the held count falls below the threshold, and replies the held
count and the oldest serial. A tally release drops the oldest entry and replies the queue count, or is NOT_FOUND. -/
def Obligations.ReleasesFreeTheOldest : Prop :=
  ∀ (s : State) (tag : Byte),
    (∀ n < 2 ^ 48, (∃ c, s.store.serial = some c ∧ c ≤ n) → ∃ t,
      exec (.recordRelease tag (leBytes 6 n)) s = .next t ∧ OnlyReplied s t 0x21 tag [0x04]) ∧
    (∀ n < 2 ^ 48, (∀ c, s.store.serial = some c → n < c) →
      let held := s.store.held.filter fun r => r.serial.any fun m => decide (n < m)
      ∃ t, exec (.recordRelease tag (leBytes 6 n)) s = .next t ∧
        OnlyReplied { s with store := { s.store with
          held := held, armed := if held.length < s.store.threshold then true else s.store.armed } } t 0x21 tag
          (0x00 :: (leBytes 2 held.length ++ leBytes 6 ((held.head?.bind VehicleRecord.serial).getD 0)))) ∧
    (s.tally.queue = [] → ∃ t, exec (.tallyRelease tag []) s = .next t ∧ OnlyReplied s t 0x23 tag [0x06]) ∧
    (∀ e rest, s.tally.queue = e :: rest → ∃ t, exec (.tallyRelease tag []) s = .next t ∧
      OnlyReplied { s with tally := { s.tally with queue := rest } } t 0x23 tag (0x00 :: leBytes 1 rest.length))

/-! ## Capture Unit -/

/-- CAPTURE_ARM, CAPTURE_RELEASE and CAPTURE_WRITE (R173 to R175, R177): an arm in IDLE, of a lane in service, empties the
unit and enters ARMED, and an open or the loss of a lane that waits behind a record on its way is dropped (the model's choice,
notes/assumptions/29.md and 35.md); outside IDLE an arm is BUSY, and out of range or of an OUT lane it is BAD_VALUE; a release leaves
the unit IDLE and empty from every state; and a due write joins the lane's four conditioned samples, the oldest set giving
way in a full buffer, but not the start. That the truncated mark is set by the first write the start blocks is the model's
choice (notes/assumptions/18.md). -/
def Obligations.CaptureArmsAndWrites : Prop :=
  ∀ (s : State) (tag : Byte),
    (∀ (ln : LaneId) (d : Nat) (trig : Trigger) (code c : Byte), 1 ≤ d → d ≤ 16 →
      (code = 0 ∧ trig = .next ∨ code = 1 ∧ trig = .flagged ∨ code = 2 ∧ c.toNat ≤ 31 ∧ trig = .cls c.toNat ∨
        code = 3 ∧ trig = .enforce) →
      let body : List Byte := [BitVec.ofNat 8 (ln.val + 1), BitVec.ofNat 8 d, code, c]
      (s.capture.state = .idle → (s.asm ln).service = .inService → ∃ t, exec (.captureArm tag body) s = .next t ∧
        OnlyReplied { s with
          mail := { s.mail with toCapture := s.mail.toCapture.map fun r => { r with opened := none, laneOut := false } }
          capture :=
            { state := .armed, lane := some ln, d := some d, trigger := some trig, buffer := [], startTick := none
              truncated := false, description := none, nextWrite := s.tb.t } } t 0x28 tag [0x00]) ∧
      (s.capture.state = .idle → (s.asm ln).service = .out → ∃ t, exec (.captureArm tag body) s = .next t ∧
        OnlyReplied s t 0x28 tag [0x04])) ∧
    (∀ a d code c : Byte, s.capture.state = .idle →
      (a.toNat = 0 ∨ 4 < a.toNat ∨ d.toNat = 0 ∨ 16 < d.toNat ∨ 3 < code.toNat ∨ code = 2 ∧ 31 < c.toNat) →
      ∃ t, exec (.captureArm tag [a, d, code, c]) s = .next t ∧ OnlyReplied s t 0x28 tag [0x04]) ∧
    (∀ a d code c : Byte, s.capture.state ≠ .idle →
      ∃ t, exec (.captureArm tag [a, d, code, c]) s = .next t ∧ OnlyReplied s t 0x28 tag [0x01]) ∧
    (∃ t, exec (.captureRelease tag []) s = .next t ∧ OnlyReplied { s with capture :=
      { state := .idle, lane := none, d := none, trigger := none, buffer := [], startTick := none, truncated := false
        description := none, nextWrite := 0 } } t 0x2A tag [0x00]) ∧
    (let c := s.capture
     let due := (c.state = .armed ∨ c.state = .recording) ∧ c.nextWrite = s.tb.t
     (¬ due → exec .captureWrite s = .next s) ∧
     ∀ ln d, due → c.lane = some ln → c.d = some d →
      let later := { c with nextWrite := s.tb.t + BitVec.ofNat 32 d }
      let x : SampleSet := { tick := s.tb.t, ys := (s.lanes.get ln).units.map ChannelUnit.y }
      let sets := c.buffer.dropWhile fun y => decide (some y.tick ≠ c.startTick)
      let blocked := c.state = .recording ∧ c.startTick ≠ none ∧ 2048 ≤ sets.length
      (blocked → exec .captureWrite s = .next { s with capture := { later with truncated := true } }) ∧
      (¬ blocked → exec .captureWrite s = .next { s with capture := { later with
        buffer := (if 2048 ≤ c.buffer.length then c.buffer.tail else c.buffer) ++ [x]
        startTick := if c.state = .recording ∧ c.startTick = none then some x.tick else c.startTick } }))

/-- The Capture Unit at the open and at the close of a vehicle (R126, R173, R175, R176): in ARMED an open of the armed lane fixes the start at
the held set nearest t1 − Δt_max / 10, or at the oldest, truncated, when that lies before it; an open that comes while a record
of the lane is still on its way waits behind it; in RECORDING a closed record of the lane for which the trigger holds is held,
described, marked CAPTURED and noticed, and any other sends the unit back to ARMED, ready for the open that waited; every
other record and every other open has no effect; and where the lane went OUT behind the record, a unit not HELD by the test is IDLE
and empty (R178). Four things are the model's choice: that the open waits behind the record and is taken after its close test
(notes/assumptions/29.md), that the loss of the lane does too, and comes before the open (notes/assumptions/35.md), that CAPTURED also marks the record while it is on its way to the store
(notes/assumptions/27.md), and the absent start and the capture of no set where none is held (notes/assumptions/18.md). The sets
keep the ticks of their writes, behind a stopped writing too (notes/assumptions/33.md). -/
def Obligations.CaptureFollowsVehicle : Prop :=
  ∀ (s : State),
    (∀ (ln : LaneId) (t1 : Tick) (win : Windows), s.capture.lane = some ln → (s.matcher ln).windows = some win →
      let target := t1 - BitVec.ofNat 32 (roundNat win.dtMax 10)
      ((∀ d ∈ s.mail.toCapture, d.record.lane ≠ ln) →
        (s.capture.state = .armed → CaptureStarts s (s.captureOpen ln t1) target) ∧
        (s.capture.state = .recording → s.captureOpen ln t1 = s)) ∧
      (∀ before d after, (s.capture.state = .armed ∨ s.capture.state = .recording) →
        s.mail.toCapture = before ++ d :: after → d.record.lane = ln → (∀ e ∈ after, e.record.lane ≠ ln) →
        s.captureOpen ln t1 = { s with mail := { s.mail with
          toCapture := before ++ { d with opened := some target } :: after } })) ∧
    (∀ (ln : LaneId) (t1 : Tick), (s.capture.state = .idle ∨ s.capture.state = .held ∨ s.capture.lane ≠ some ln) →
      s.captureOpen ln t1 = s) ∧
    (s.mail.toCapture = [] → exec .captureCloseTest s = .next s) ∧
    (∀ r rest, s.mail.toCapture = { record := r, opened := none, laneOut := false } :: rest →
      let c := s.capture
      let s' : State := { s with mail := { s.mail with toCapture := rest } }
      ((c.state ≠ .recording ∨ c.lane ≠ some r.lane) → exec .captureCloseTest s = .next s') ∧
      ∀ trig d, c.state = .recording → c.lane = some r.lane → c.trigger = some trig → c.d = some d →
        let isTrue := match trig with
          | .next => True
          | .flagged => r.quality ≠ .good
          | .cls n => r.cls = n
          | .enforce => r.flags.axleOver = true ∨ r.flags.gvwOver = true ∨ r.flags.laneBanned = true
        let sets := if c.startTick = none then [] else c.buffer.dropWhile fun y => decide (some y.tick ≠ c.startTick)
        let mark : VehicleRecord → VehicleRecord := fun q =>
          if r.serial ≠ none ∧ q.serial = r.serial then { q with conditions := { q.conditions with captured := true } } else q
        (¬ isTrue → exec .captureCloseTest s = .next { s' with capture := { c with
          state := .armed, startTick := none, truncated := false } }) ∧
        (isTrue → exec .captureCloseTest s = .next { s' with
          capture := { c with
            state := .held, buffer := sets
            description := some ⟨r.serial, r.lane, c.startTick, d, sets.length, c.truncated⟩ }
          store := { s.store with held := s.store.held.map mark }
          mail := { s'.mail with toStore := s.mail.toStore.map mark }
          link := s.link.raised (.captureHeld r.serial) })) ∧
    ∀ r opened laneOut rest, s.mail.toCapture = { record := r, opened := opened, laneOut := laneOut } :: rest →
      ∃ m t, exec .captureCloseTest s = .next t ∧
        exec .captureCloseTest { s with mail := { s.mail with
          toCapture := { record := r, opened := none, laneOut := false } :: rest } } = .next m ∧
        let told : State :=
          if laneOut = true ∧ (m.capture.state = .armed ∨ m.capture.state = .recording) ∧ m.capture.lane = some r.lane
          then { m with capture := captureEmpty } else m
        (opened = none → t = told) ∧
        ∀ target, opened = some target →
          (told.capture.state = .armed → told.capture.lane = some r.lane → CaptureStarts told t target) ∧
          (told.capture.state ≠ .armed ∨ told.capture.lane ≠ some r.lane → t = told)


/-! ## Message Link and the requests that read -/

/-- STATUS (R13, R35, R72, R92, R156, R172, R178, R183, R185): the reply carries each block's fields as they stand, each at its place, and
building it sets the four counts it reports to 0 and changes nothing else. The codes, the places and so the length of 176 bytes,
with the generation numbers sent a second time in the Table Store's block, are the model's choice (notes/assumptions/21.md). -/
def Obligations.StatusReportsAndClears : Prop :=
  ∀ (s : State) (tag : Byte), ∃ t body, exec (.status tag []) s = .next t ∧
    OnlyReplied { s with
      tb := { s.tb with rejectedEdges := 0 }, store := { s.store with dropped := 0 }
      link := { s.link with badFrames := 0, overruns := 0 } } t 0x01 tag body ∧
    body.length = 176 ∧ field body 0 1 = 0 ∧
    field body 1 1 = (match s.tb.lock with | .unlocked => 0 | .locked => 1 | .free => 2) ∧
    field body 2 2 = s.tb.nRef % 65536 ∧
    (match s.tb.lastInterval with
      | some n => field body 4 1 = 1 ∧ field body 5 4 = n % 2 ^ 32
      | none => field body 4 5 = 0) ∧
    field body 9 4 = s.tb.t.toNat ∧ field body 13 4 = s.tb.seconds.toNat ∧
    field body 17 2 = ticksSince s.tb.t s.tb.mark % 65536 ∧ field body 19 2 = s.tb.rejectedEdges % 65536 ∧
    field body 21 2 = s.tb.relocks % 65536 ∧
    (∀ ch,
      field body (20 + 3 * channelNumber ch) 1 =
        (match (s.unit ch).service with | .active => 0 | .suspect => 1 | .failed => 2 | .disabled => 3) ∧
      field body (21 + 3 * channelNumber ch) 2 = (s.unit ch).generation.getD 0 % 65536) ∧
    (∀ ln : LaneId,
      field body (71 + 3 * ln.val) 1 =
        (match (s.lanes.get ln).reported with | .out => 0 | .degraded => 1 | .inService => 2) ∧
      field body (72 + 3 * ln.val) 2 = ((s.asm ln).adopted.map Generation.number).getD 0 % 65536) ∧
    (∀ p : ProbeId,
      field body (83 + 2 * p.val) 1 =
        (match (s.probe p).role with | .primary => 0 | .alternate => 1 | .surface => 2 | .deep => 3 | .none => 4) ∧
      field body (84 + 2 * p.val) 1 =
        (match (s.probe p).state with | .absent => 0 | .seeding => 1 | .good => 2 | .suspect => 3 | .failed => 4)) ∧
    (-32768 ≤ s.temp.tw → s.temp.tw ≤ 32767 → leInt16 (slice body 91 2) = s.temp.tw) ∧
    field body 93 1 = (if s.temp.held then 1 else 0) ∧ field body 94 1 = (if s.tables.staging = none then 0 else 1) ∧
    field body 95 2 = (s.tables.staging.bind Staging.source).getD 0 % 65536 ∧
    field body 97 2 = (s.tables.active.map Generation.number).getD 0 % 65536 ∧
    field body 99 2 = (s.tables.retiring.map Generation.number).getD 0 % 65536 ∧
    (∀ ln : LaneId, field body (101 + 2 * ln.val) 2 = ((s.asm ln).adopted.map Generation.number).getD 0 % 65536) ∧
    (∀ ch, field body (107 + 2 * channelNumber ch) 2 = (s.unit ch).generation.getD 0 % 65536) ∧
    field body 141 2 = s.store.held.length % 65536 ∧
    field body 143 6 = (s.store.held.head?.bind VehicleRecord.serial).getD 0 % 2 ^ 48 ∧
    field body 149 6 = s.store.serial.getD 0 % 2 ^ 48 ∧ field body 155 2 = s.store.dropped % 65536 ∧
    field body 157 1 = (if s.store.armed then 0 else 1) ∧ field body 158 1 = s.tally.queue.length % 256 ∧ field body 159 4 = s.tally.openedAt.toNat ∧
    field body 163 2 = s.tally.extension % 65536 ∧
    CaptureAt body 165 s.capture ∧
    field body 172 2 = s.link.badFrames % 65536 ∧ field body 174 2 = s.link.overruns % 65536

/-- The requests that only read (R139, R155, R163, R171, R177, R183, R185): each answers from what the device holds and changes nothing;
what is out of range is BAD_VALUE and what is not there NOT_FOUND. The codes and places of LIVE_READ and its length, with no fields
of the timebase, the Table Store or the link and the capture's absent outside RECORDING (notes/assumptions/21.md), are the
model's choice, and so is what its quiet byte counts as quiet (notes/assumptions/6.md). Every record sent has the layout of R185, 34
bytes and 11 for each axle, every tally entry that of 810 bytes, where its lists have the lengths of R166 (StepsKeepRecords), and
every capture description that of 15. -/
def Obligations.ReadsChangeNothing : Prop :=
  ∀ (s : State) (tag : Byte),
    let answers : Instr → Byte → List Byte → Prop := fun c kind reply =>
      ∃ t, exec c s = .next t ∧ OnlyReplied s t kind tag reply
    (∃ reply, answers (.liveRead tag []) 0x02 (0x00 :: reply) ∧ LiveLayout reply s) ∧
    (∀ r : VehicleRecord, RecordLayout r.bytes r) ∧
    (∀ e : TallyEntry, (∀ ln, (e.lanes.get ln).Sized) → TallyLayout e.bytes e) ∧
    (∀ d : Description, DescriptionLayout d.bytes d) ∧
    (∀ id : ItemId,
      let body : List Byte := [BitVec.ofNat 8 id.codes.1, BitVec.ofNat 8 id.codes.2]
      (s.tables.active = none → answers (.tableRead tag body) 0x14 [0x06]) ∧
      ∀ g, s.tables.active = some g → answers (.tableRead tag body) 0x14 (0x00 :: (g.set.item id).bytes)) ∧
    (∀ a b : Byte, (∀ id : ItemId, id.codes ≠ (a.toNat, b.toNat)) → answers (.tableRead tag [a, b]) 0x14 [0x04]) ∧
    (∀ ln : LaneId, ∃ reply, answers (.driftGet tag [BitVec.ofNat 8 (ln.val + 1)]) 0x18 (0x00 :: reply) ∧
      reply.length = 41 ∧
      (∀ b : Band,
        field reply (5 * b.val) 2 = (s.driftBand ln b).kd % 65536 ∧
        field reply (5 * b.val + 2) 1 = (s.driftBand ln b).n % 256 ∧
        field reply (5 * b.val + 3) 2 = (s.driftBand ln b).rejected % 65536) ∧
      field reply 40 1 = if (s.drift.lanes.get ln).frozen then 1 else 0) ∧
    (∀ a : Byte, a.toNat = 0 ∨ 4 < a.toNat → answers (.driftGet tag [a]) 0x18 [0x04]) ∧
    (∀ n < 2 ^ 48, ∀ k : Byte,
      let found := s.store.held.filter fun r => r.serial.any fun m => decide (n ≤ m)
      let body := leBytes 6 n ++ [k]
      (k.toNat = 0 ∨ 4 < k.toNat → answers (.recordFetch tag body) 0x20 [0x04]) ∧
      (1 ≤ k.toNat → k.toNat ≤ 4 → found = [] → answers (.recordFetch tag body) 0x20 [0x06]) ∧
      (1 ≤ k.toNat → k.toNat ≤ 4 → found ≠ [] →
        answers (.recordFetch tag body) 0x20 (0x00 :: (found.take k.toNat).flatMap VehicleRecord.bytes))) ∧
    (s.tally.queue = [] → answers (.tallyFetch tag []) 0x22 [0x06]) ∧
    (∀ e rest, s.tally.queue = e :: rest → answers (.tallyFetch tag []) 0x22 (0x00 :: e.bytes)) ∧
    (∀ off < 65536, ∀ k : Byte,
      let body := leBytes 2 off ++ [k]
      (s.capture.state ≠ .held → answers (.captureFetch tag body) 0x29 [0x06]) ∧
      ∀ d, s.capture.state = .held → s.capture.description = some d →
        (k.toNat = 0 ∨ 120 < k.toNat ∨ d.count ≤ off → answers (.captureFetch tag body) 0x29 [0x04]) ∧
        (1 ≤ k.toNat → k.toNat ≤ 120 → off < d.count →
          let sets := ((captureSets s.capture).drop off).take k.toNat
          ∃ reply, answers (.captureFetch tag body) 0x29 (0x00 :: (d.bytes ++ reply)) ∧
            reply.length = 3 + 8 * sets.length ∧ field reply 0 2 = off ∧ field reply 2 1 = sets.length ∧
            ∀ (i : Nat) (h : i < sets.length) (p : Strip),
              field reply (3 + 8 * i + 2 * p.val) 2 = twos 2 (sets[i].ys.get p)))

/-- INBOUND_BYTE and FRAME_GAP_EXPIRY (R180, R181): the receiver's table, with the discards of a length beyond 1 024, a bad CRC, a kind of
0x80 or above, a stop-bit fault and a gap of more than 50 ticks; and a good request joins the queue, is answered OVERRUN when
four are in it, or is counted when the overrun slot is full. A faulty sync byte in HUNT counts as the frame it would open, and
another faulty byte there is ignored: the model's choice (notes/assumptions/10.md). -/
def Obligations.BytesAreFramed : Prop :=
  ∀ (s : State) (byte : Byte) (fault : Bool),
    let l := s.link
    let becomes : Link → Prop := fun x => exec (.inboundByte byte fault) s = .next { s with link := { x with lastByte := s.tb.t } }
    let discarded : Link := { l with rx := .hunt, badFrames := min 65535 (l.badFrames + 1) }
    (l.rx = .hunt → (byte ≠ 0x5C → becomes l) ∧ (byte = 0x5C → fault = false → becomes { l with rx := .header [] }) ∧
      (byte = 0x5C → fault = true → becomes discarded)) ∧
    (l.rx ≠ .hunt → fault = true → becomes discarded) ∧
    (fault = false →
      (∀ got, l.rx = .header got → got.length < 3 → becomes { l with rx := .header (got ++ [byte]) }) ∧
      (∀ low high kind, l.rx = .header [low, high, kind] →
        let h : FrameHeader := { length := low.toNat + 256 * high.toNat, kind := kind, tag := byte }
        (1024 < h.length → becomes discarded) ∧ (h.length = 0 → becomes { l with rx := .check h [] none }) ∧
        (1 ≤ h.length → h.length ≤ 1024 → becomes { l with rx := .body h [] })) ∧
      (∀ h got, l.rx = .body h got →
        (got.length + 1 < h.length → becomes { l with rx := .body h (got ++ [byte]) }) ∧
        (h.length ≤ got.length + 1 → becomes { l with rx := .check h (got ++ [byte]) none })) ∧
      (∀ h body, l.rx = .check h body none → becomes { l with rx := .check h body (some byte) }) ∧
      (∀ h body low, l.rx = .check h body (some low) →
        let isGood := low.toNat + 256 * byte.toNat = (crc16 (leBytes 2 h.length ++ [h.kind, h.tag] ++ body)).toNat ∧
          h.kind.toNat < 0x80
        let overrun : Reply := { kind := h.kind + 0x80, tag := h.tag, body := [0x08], source := .overrun }
        (¬ isGood → becomes discarded) ∧
        (isGood → l.requests.length < 4 → becomes { l with
          rx := .hunt
          requests := l.requests ++ [{ kind := h.kind, tag := h.tag, body := body, served := false }] }) ∧
        (isGood → 4 ≤ l.requests.length → l.overrunSlot = none → becomes { l with
          rx := .hunt, overrunSlot := some overrun, outgoing := l.outgoing ++ [.reply overrun] }) ∧
        (isGood → 4 ≤ l.requests.length → l.overrunSlot ≠ none → becomes { l with
          rx := .hunt, overruns := min 65535 (l.overruns + 1) }))) ∧
    (l.rx ≠ .hunt → 50 < ticksSince s.tb.t l.lastByte → exec .frameGapExpiry s = .next { s with link := discarded }) ∧
    (l.rx = .hunt ∨ ticksSince s.tb.t l.lastByte ≤ 50 → exec .frameGapExpiry s = .next s)

/-- Raising and sending (R181, R182): a notice, whose body follows the table of R182, joins at the tail, or merges into the one instance of its kind that waits, by the table of
R182; and TRANSMIT_END ends the frame in transmission, taking the request of a served reply out of the queue, and begins the
next, whose beginning empties the overrun slot of an OVERRUN reply; with no frame in transmission or waiting it does nothing, and
with none begun but one waiting it is that one's transmission that ends (the model's choice, notes/assumptions/14.md). A request
command that is the oldest unserved request of the queue marks it served, and no other, and its reply holds that place; any other
leaves the queue as it is and its reply holds none (R181). The direct service is the model's choice (notes/assumptions/8.md). -/
def Obligations.OutgoingFramesKeepOrder : Prop :=
  (∀ (n : Notice) (fs : List OutFrame), (∀ m, .notice m ∈ fs → m.kind ≠ n.kind) → raiseIn fs n = fs ++ [.notice n]) ∧
  (∀ (n m : Notice) (before after : List OutFrame), (∀ k, .notice k ∈ before → k.kind ≠ n.kind) → m.kind = n.kind →
    raiseIn (before ++ .notice m :: after) n = before ++ .notice (m.merge n) :: after) ∧
  (∀ (a b c d : Bool), (Notice.started a b).merge (.started c d) = .started (a || c) (b || d)) ∧
  (∀ x y, (Notice.serviceChange x).merge (.serviceChange y) = .serviceChange
    { channels := x.channels ||| y.channels, probes := x.probes ||| y.probes, lanes := x.lanes ||| y.lanes
      timebase := x.timebase || y.timebase }) ∧
  (∀ (x y : Four (BitVec 8)), ∃ z, (Notice.driftUpdated x).merge (.driftUpdated y) = .driftUpdated z ∧
    ∀ ln, z.get ln = x.get ln ||| y.get ln) ∧
  (∀ m n : Notice, m.kind = n.kind → m.kind = 0xE1 ∨ m.kind = 0xE2 ∨ m.kind = 0xE5 → m.merge n = n) ∧
  ∀ s : State,
    let begun : List Request → List OutFrame → State := fun requests fs => { s with link := { s.link with
      requests := requests, sending := fs.head?, outgoing := fs.tail
      overrunSlot := (fs.head?.map (slotBegun s.link.overrunSlot)).getD s.link.overrunSlot } }
    (∀ c kind tag body t, c.wellFormed = true → encodeRequest c = some (kind, tag, body) → exec c s = .next t →
      Served s.link.requests t.link.requests kind tag body ∧
      t.link.outgoing.countP OutFrame.holdsPlace =
        s.link.outgoing.countP OutFrame.holdsPlace + (if t.link.requests = s.link.requests then 0 else 1) ∧
      t.link.outgoing.filterMap OutFrame.overrunOf = s.link.outgoing.filterMap OutFrame.overrunOf) ∧
    (∀ n : Notice, NoticeLayout n.contents n ∧ (OutFrame.notice n).parts = (n.kind, 0, 0x00 :: n.contents)) ∧
    (s.link.sending = none → s.link.outgoing = [] → exec .transmitEnd s = .next s) ∧
    (∀ f fs, s.link.sending = none → s.link.outgoing = f :: fs → exec .transmitEnd s = exec .transmitEnd
      { s with link := { s.link with
        sending := some f, outgoing := fs, overrunSlot := slotBegun s.link.overrunSlot f } }) ∧
    (∀ n, s.link.sending = some (.notice n) →
      exec .transmitEnd s = .next (begun s.link.requests s.link.outgoing)) ∧
    (∀ r, s.link.sending = some (.reply r) → r.source ≠ .queued →
      exec .transmitEnd s = .next (begun s.link.requests s.link.outgoing)) ∧
    (∀ r before q after, s.link.sending = some (.reply r) → r.source = .queued → s.link.requests = before ++ q :: after →
      q.served = true → (∀ p ∈ before, p.served = false) →
      exec .transmitEnd s = .next (begun (before ++ after) s.link.outgoing))

/-- What the link itself refuses (R181, R185): a kind that names no request is BAD_KIND; a body of another length than its kind requires is
BAD_LENGTH, and so is a STAGE_PUT body too short for its kind and index (the model's choice, notes/assumptions/19.md) or of another
length than the item they name requires. Nothing but the reply comes of either. -/
def Obligations.LinkRefusesFrames : Prop :=
  ∀ s : State,
    (∀ kind tag body, kind.toNat < 0x80 →
      kind ∉ ([0x01, 0x02, 0x03, 0x04, 0x05, 0x06, 0x10, 0x11, 0x12, 0x13, 0x14, 0x18, 0x19, 0x1A, 0x20, 0x21, 0x22, 0x23, 0x28,
        0x29, 0x2A] : List Byte) →
      ∃ t, exec (.unknownRequest kind tag body) s = .next t ∧ OnlyReplied s t kind tag [0x03]) ∧
    (∀ c kind tag body n, encodeRequest c = some (kind, tag, body) → requiredLength c = some n → body.length ≠ n →
      ∃ t, exec c s = .next t ∧ OnlyReplied s t kind tag [0x02]) ∧
    (∀ tag body, body.length < 2 → ∃ t, exec (.stagePut tag body) s = .next t ∧ OnlyReplied s t 0x11 tag [0x02]) ∧
    ∀ tag kind index fields id, itemIdOf kind.toNat index.toNat = some id → fieldsLength id fields ≠ some fields.length →
      ∃ t, exec (.stagePut tag (kind :: index :: fields)) s = .next t ∧ OnlyReplied s t 0x11 tag [0x02]

/-- RESTART (R36, R54, R60, R94, R157, R172, R178, R184): the units abandon their attempts with clear counts, seed again and adopt what waits;
the matchers and open vehicles are emptied and every lane adopts the active generation; the gate starts again; staging is
dropped and the retiring generation freed; the tallies reopen and the capture is cleared. The timebase, the probes, the drift
factors, the records and the link's counts are kept. SERVICE_CHANGE marks each unit and each lane whose state changes (R31, R74). The
reply follows the effects, and STARTED with cause RESTART the reply. That reports on their way are dropped with the matchers while
records, drops and offers on their way are kept (notes/assumptions/22.md), that what waits behind a record on its
way to the Capture Unit is dropped (notes/assumptions/29.md and 35.md), and that a pulse marked overdue is abandoned uncounted (notes/assumptions/13.md), are the model's
choice. -/
def Obligations.RestartRestartsBlocks : Prop :=
  ∀ (s : State) (tag : Byte), s.GenerationInv →
    ∃ m m' t, exec (.restart tag []) s = .next t ∧ OnlyReplied m m' 0x04 tag [0x00] ∧
      t = { m' with link := m'.link.raised (.started false true) } ∧
      (∀ ch,
        let u := { s.unit ch with detector := .quiet, overlong := 0, miss := 0, seed := true }
        (u.waiting = none → m.unit ch = u) ∧
        ∀ w, u.waiting = some w →
          let v := { u with settings := some w.settings, generation := some w.generation, waiting := none }
          m.unit ch =
            if w.settings.enabled then (if u.service = .disabled then { v with service := .active } else v)
            else if u.service = .disabled then v
            else { v with service := .disabled, lastExcess := 0 }) ∧
      (∀ ln,
        let a := s.asm ln
        let empty : Matcher := { list1 := [], list2 := [], queue := [], windows := (s.matcher ln).windows, mark := none }
        (s.tables.active = none → m.asm ln = { a with context := none } ∧ m.matcher ln = empty) ∧
        ∀ g, s.tables.active = some g →
          let w := g.set.lanes.get ln
          m.asm ln = { a with
            context := none, adopted := some g, working := some w, service := if w.enabled then .inService else .out
            heldSpeed := if a.service = .out ∧ w.enabled = true then roundNat (w.fallback * 10000) 36 else a.heldSpeed } ∧
          m.matcher ln = { empty with windows := some (windowsOf w s.tb.nRef) }) ∧
      m.link = fours.foldl (fun l ln =>
        if (m.lanes.get ln).reported = (laneUpTo s m ln 4).reported then l else l.raised (laneChange ln))
        (unitNotices s m allChannels) ∧
      m = { s with
        lanes := m.lanes, link := m.link
        mail := { s.mail with
          reports := [], toCapture := s.mail.toCapture.map fun d => { d with opened := none, laneOut := false } }
        temp := { s.temp with gate := s.temp.gate.map fun g =>
          { probe := g.probe, start := s.tb.t, length := s.temp.gateLength, base := (s.probe g.probe).edges } }
        tables := { s.tables with staging := none, retiring := none }
        capture := { state := .idle, lane := none, d := none, trigger := none, buffer := [], startTick := none
                     truncated := false, description := none, nextWrite := 0 }
        tally := { s.tally with
          active := Four.fill (Tally.opened s.temp.tw), openedAt := s.tb.seconds, extension := 0 } }

/-! ## Round trips -/

/-- A request that the line carries is the command that is served (R179, R180, R181, R185): the bytes of a well-formed request's frame,
CRC and all, taken one by one from HUNT by a link with room, put the request at the tail of the queue and change nothing else
but the tick of the last byte, and its kind, tag and body spell the command again. -/
def Obligations.RequestFramesRoundTrip : Prop :=
  ∀ (c : Instr) (kind tag : Byte) (body : List Byte) (s : State), c.wellFormed = true →
    encodeRequest c = some (kind, tag, body) → s.link.rx = .hunt → s.link.requests.length < 4 →
    s.run ((frameBytes kind tag body).map fun b => .inboundByte b false) = some { s with link := { s.link with
      requests := s.link.requests ++ [{ kind := kind, tag := tag, body := body, served := false }], lastByte := s.tb.t } } ∧
    decodeRequest kind tag body = c

/-- An item is sent in the fields and widths of R185; and one that passes its checks, put by the bytes that a TABLE_READ sends it with,
is that item again (R146, R147, R155), and so is its identity. -/
def Obligations.ItemsRoundTrip : Prop :=
  (∀ i : Item, FieldsAt i.bytes 0 (itemLayout i)) ∧ ∀ i : Item, i.ok = true →
    stagePutLength i.bytes = true ∧ stagePutItem i.bytes = some i ∧ itemIdOf i.id.codes.1 i.id.codes.2 = some i.id

/-! ## Invariants of the step -/

/-- Every step keeps the figures in their ranges: N_ref, the candidate and reject runs of the timebase (R2, R3, R5, R7); every drift
factor within 0.75 to 1.25 (R133); and the selection of T_w, its value and the held mark as R68 gives. -/
def Obligations.StepsKeepFigures : Prop :=
  ∀ s t : State, step s = .next t →
    (s.RateInv → t.RateInv) ∧ (s.FactorInv → t.FactorInv) ∧ (s.SelectionInv → t.SelectionInv)

/-- Every step keeps the channel units and the lanes in order: counts below their limits, nothing held by a unit that is not running
(R24, R27, R29, R35); lists and queues within their bounds, an OUT lane empty, and IN_SERVICE exactly as the working settings
enable (R39, R45, R53, R74, R76). -/
def Obligations.StepsKeepUnitsAndLanes : Prop :=
  ∀ s t : State, step s = .next t → (s.ChannelInv → t.ChannelInv) ∧ (s.LaneInv → t.LaneInv)

/-- Every step keeps the site tables in order: every set held has passed its checks and every drift batch is smaller than the batch
size (R136, R147, R149); and at most two generations are live, with their numbers and holders as R151 and R153 give. -/
def Obligations.StepsKeepTables : Prop :=
  ∀ s t : State, step s = .next t → (s.SettingsInv → t.SettingsInv) ∧ (s.GenerationInv → t.GenerationInv)

/-- Every step keeps the records and the tallies in order: at most 256 held, in the order of their serials, each serial assigned once,
every record with the relations of R162, and every open vehicle of 1 to 13 axles (R85, R159, R160, R162); every tally with its
lists of counts at their lengths, and at most four closed ones (R166, R169). -/
def Obligations.StepsKeepRecords : Prop :=
  ∀ s t : State, step s = .next t → (s.RecordInv → t.RecordInv) ∧ (s.TallyInv → t.TallyInv)

/-- Every step keeps the link in order: four requests at most, served in order of arrival, each holding its place until its reply's
transmission ends; one OVERRUN reply at most waiting; and one pending notice at most of each kind (R181, R182). -/
def Obligations.StepsKeepLink : Prop := ∀ s t : State, step s = .next t → s.LinkInv → t.LinkInv

/-- The state after reset meets every invariant. -/
def Obligations.ResetMeetsInvariants : Prop :=
  State.reset.RateInv ∧ State.reset.FactorInv ∧ State.reset.SelectionInv ∧ State.reset.ChannelInv ∧ State.reset.LaneInv ∧
  State.reset.SettingsInv ∧ State.reset.GenerationInv ∧ State.reset.RecordInv ∧ State.reset.TallyInv ∧ State.reset.LinkInv
end

