-- ==== Sys2Proof/Laws/State.lean ====
section
/-! SUPPORT. The fields of the state after each plain update, one lemma per field: later proofs never unfold an update. -/

namespace Sys2Proof

/-! ## Groups -/

@[simp] theorem Four.get_set_same {α : Type} (f : Four α) (i : Fin 4) (x : α) : (f.set i x).get i = x := by
  revert i; intro i; fin_cases i <;> rfl

theorem Four.get_set_ne {α : Type} (f : Four α) {i j : Fin 4} (x : α) (h : j ≠ i) : (f.set i x).get j = f.get j := by
  revert h; fin_cases i <;> fin_cases j <;> simp [Four.set, Four.get]

theorem Four.get_set {α : Type} (f : Four α) (i j : Fin 4) (x : α) :
    (f.set i x).get j = if j = i then x else f.get j := by
  by_cases h : j = i
  · subst h; simp
  · simp [h, Four.get_set_ne]

@[simp] theorem Four.set_get {α : Type} (f : Four α) (i : Fin 4) : f.set i (f.get i) = f := by
  fin_cases i <;> rfl

@[simp] theorem Four.set_set {α : Type} (f : Four α) (i : Fin 4) (x y : α) : (f.set i x).set i y = f.set i y := by
  fin_cases i <;> rfl

@[simp] theorem Four.get_map {α β : Type} (g : α → β) (f : Four α) (i : Fin 4) : (f.map g).get i = g (f.get i) := by
  fin_cases i <;> rfl

@[simp] theorem Four.get_fill {α : Type} (x : α) (i : Fin 4) : (Four.fill x).get i = x := by
  fin_cases i <;> rfl

theorem Four.ext_get {α : Type} {f g : Four α} (h : ∀ i, f.get i = g.get i) : f = g := by
  have h0 := h 0; have h1 := h 1; have h2 := h 2; have h3 := h 3
  cases f; cases g; simp_all [Four.get]

@[simp] theorem Eight.get_set_same {α : Type} (f : Eight α) (i : Fin 8) (x : α) : (f.set i x).get i = x := by
  fin_cases i <;> rfl

theorem Eight.get_set_ne {α : Type} (f : Eight α) {i j : Fin 8} (x : α) (h : j ≠ i) : (f.set i x).get j = f.get j := by
  revert h; fin_cases i <;> fin_cases j <;> simp [Eight.set, Eight.get]

@[simp] theorem Eight.get_map {α β : Type} (g : α → β) (f : Eight α) (i : Fin 8) : (f.map g).get i = g (f.get i) := by
  fin_cases i <;> rfl

@[simp] theorem Eight.get_fill {α : Type} (x : α) (i : Fin 8) : (Eight.fill x).get i = x := by
  fin_cases i <;> rfl

namespace Machine

/-! ## Ranges -/

theorem within_iff (lo hi n : Nat) : within lo hi n = true ↔ lo ≤ n ∧ n ≤ hi := by simp [within]

theorem withinInt_iff (lo hi n : Int) : withinInt lo hi n = true ↔ lo ≤ n ∧ n ≤ hi := by simp [withinInt]

theorem clampNat_range {lo hi : Nat} (h : lo ≤ hi) (n : Nat) : lo ≤ clampNat lo hi n ∧ clampNat lo hi n ≤ hi := by
  simp only [clampNat]; omega


/-! ### setLane -/

@[simp] theorem State.setLane_pending (s : State) (ln : LaneId) (l : Lane) : (s.setLane ln l).pending = s.pending := rfl
@[simp] theorem State.setLane_tb (s : State) (ln : LaneId) (l : Lane) : (s.setLane ln l).tb = s.tb := rfl
@[simp] theorem State.setLane_lanes (s : State) (ln : LaneId) (l : Lane) :
    (s.setLane ln l).lanes = s.lanes.set ln l := rfl
@[simp] theorem State.setLane_temp (s : State) (ln : LaneId) (l : Lane) : (s.setLane ln l).temp = s.temp := rfl
@[simp] theorem State.setLane_drift (s : State) (ln : LaneId) (l : Lane) : (s.setLane ln l).drift = s.drift := rfl
@[simp] theorem State.setLane_tables (s : State) (ln : LaneId) (l : Lane) : (s.setLane ln l).tables = s.tables := rfl
@[simp] theorem State.setLane_store (s : State) (ln : LaneId) (l : Lane) : (s.setLane ln l).store = s.store := rfl
@[simp] theorem State.setLane_tally (s : State) (ln : LaneId) (l : Lane) : (s.setLane ln l).tally = s.tally := rfl
@[simp] theorem State.setLane_capture (s : State) (ln : LaneId) (l : Lane) : (s.setLane ln l).capture = s.capture := rfl
@[simp] theorem State.setLane_link (s : State) (ln : LaneId) (l : Lane) : (s.setLane ln l).link = s.link := rfl
@[simp] theorem State.setLane_mail (s : State) (ln : LaneId) (l : Lane) : (s.setLane ln l).mail = s.mail := rfl

/-! ### setMatcher -/

@[simp] theorem State.setMatcher_pending (s : State) (ln : LaneId) (m : Matcher) : (s.setMatcher ln m).pending = s.pending := rfl
@[simp] theorem State.setMatcher_tb (s : State) (ln : LaneId) (m : Matcher) : (s.setMatcher ln m).tb = s.tb := rfl
@[simp] theorem State.setMatcher_lanes (s : State) (ln : LaneId) (m : Matcher) :
    (s.setMatcher ln m).lanes = s.lanes.set ln { s.lanes.get ln with matcher := m } := rfl
@[simp] theorem State.setMatcher_temp (s : State) (ln : LaneId) (m : Matcher) : (s.setMatcher ln m).temp = s.temp := rfl
@[simp] theorem State.setMatcher_drift (s : State) (ln : LaneId) (m : Matcher) : (s.setMatcher ln m).drift = s.drift := rfl
@[simp] theorem State.setMatcher_tables (s : State) (ln : LaneId) (m : Matcher) : (s.setMatcher ln m).tables = s.tables := rfl
@[simp] theorem State.setMatcher_store (s : State) (ln : LaneId) (m : Matcher) : (s.setMatcher ln m).store = s.store := rfl
@[simp] theorem State.setMatcher_tally (s : State) (ln : LaneId) (m : Matcher) : (s.setMatcher ln m).tally = s.tally := rfl
@[simp] theorem State.setMatcher_capture (s : State) (ln : LaneId) (m : Matcher) : (s.setMatcher ln m).capture = s.capture := rfl
@[simp] theorem State.setMatcher_link (s : State) (ln : LaneId) (m : Matcher) : (s.setMatcher ln m).link = s.link := rfl
@[simp] theorem State.setMatcher_mail (s : State) (ln : LaneId) (m : Matcher) : (s.setMatcher ln m).mail = s.mail := rfl

/-! ### setAsm -/

@[simp] theorem State.setAsm_pending (s : State) (ln : LaneId) (a : Assembler) : (s.setAsm ln a).pending = s.pending := rfl
@[simp] theorem State.setAsm_tb (s : State) (ln : LaneId) (a : Assembler) : (s.setAsm ln a).tb = s.tb := rfl
@[simp] theorem State.setAsm_lanes (s : State) (ln : LaneId) (a : Assembler) :
    (s.setAsm ln a).lanes = s.lanes.set ln { s.lanes.get ln with asm := a } := rfl
@[simp] theorem State.setAsm_temp (s : State) (ln : LaneId) (a : Assembler) : (s.setAsm ln a).temp = s.temp := rfl
@[simp] theorem State.setAsm_drift (s : State) (ln : LaneId) (a : Assembler) : (s.setAsm ln a).drift = s.drift := rfl
@[simp] theorem State.setAsm_tables (s : State) (ln : LaneId) (a : Assembler) : (s.setAsm ln a).tables = s.tables := rfl
@[simp] theorem State.setAsm_store (s : State) (ln : LaneId) (a : Assembler) : (s.setAsm ln a).store = s.store := rfl
@[simp] theorem State.setAsm_tally (s : State) (ln : LaneId) (a : Assembler) : (s.setAsm ln a).tally = s.tally := rfl
@[simp] theorem State.setAsm_capture (s : State) (ln : LaneId) (a : Assembler) : (s.setAsm ln a).capture = s.capture := rfl
@[simp] theorem State.setAsm_link (s : State) (ln : LaneId) (a : Assembler) : (s.setAsm ln a).link = s.link := rfl
@[simp] theorem State.setAsm_mail (s : State) (ln : LaneId) (a : Assembler) : (s.setAsm ln a).mail = s.mail := rfl

/-! ### setUnit -/

@[simp] theorem State.setUnit_pending (s : State) (ch : ChannelId) (u : ChannelUnit) : (s.setUnit ch u).pending = s.pending := rfl
@[simp] theorem State.setUnit_tb (s : State) (ch : ChannelId) (u : ChannelUnit) : (s.setUnit ch u).tb = s.tb := rfl
@[simp] theorem State.setUnit_temp (s : State) (ch : ChannelId) (u : ChannelUnit) : (s.setUnit ch u).temp = s.temp := rfl
@[simp] theorem State.setUnit_drift (s : State) (ch : ChannelId) (u : ChannelUnit) : (s.setUnit ch u).drift = s.drift := rfl
@[simp] theorem State.setUnit_tables (s : State) (ch : ChannelId) (u : ChannelUnit) : (s.setUnit ch u).tables = s.tables := rfl
@[simp] theorem State.setUnit_store (s : State) (ch : ChannelId) (u : ChannelUnit) : (s.setUnit ch u).store = s.store := rfl
@[simp] theorem State.setUnit_tally (s : State) (ch : ChannelId) (u : ChannelUnit) : (s.setUnit ch u).tally = s.tally := rfl
@[simp] theorem State.setUnit_capture (s : State) (ch : ChannelId) (u : ChannelUnit) : (s.setUnit ch u).capture = s.capture := rfl
@[simp] theorem State.setUnit_link (s : State) (ch : ChannelId) (u : ChannelUnit) : (s.setUnit ch u).link = s.link := rfl
@[simp] theorem State.setUnit_mail (s : State) (ch : ChannelId) (u : ChannelUnit) : (s.setUnit ch u).mail = s.mail := rfl

/-! ### setHalfList -/

@[simp] theorem State.setHalfList_pending (s : State) (ln : LaneId) (row : Row) (l : List PulseReport) : (s.setHalfList ln row l).pending = s.pending := rfl
@[simp] theorem State.setHalfList_tb (s : State) (ln : LaneId) (row : Row) (l : List PulseReport) : (s.setHalfList ln row l).tb = s.tb := rfl
@[simp] theorem State.setHalfList_temp (s : State) (ln : LaneId) (row : Row) (l : List PulseReport) : (s.setHalfList ln row l).temp = s.temp := rfl
@[simp] theorem State.setHalfList_drift (s : State) (ln : LaneId) (row : Row) (l : List PulseReport) : (s.setHalfList ln row l).drift = s.drift := rfl
@[simp] theorem State.setHalfList_tables (s : State) (ln : LaneId) (row : Row) (l : List PulseReport) : (s.setHalfList ln row l).tables = s.tables := rfl
@[simp] theorem State.setHalfList_store (s : State) (ln : LaneId) (row : Row) (l : List PulseReport) : (s.setHalfList ln row l).store = s.store := rfl
@[simp] theorem State.setHalfList_tally (s : State) (ln : LaneId) (row : Row) (l : List PulseReport) : (s.setHalfList ln row l).tally = s.tally := rfl
@[simp] theorem State.setHalfList_capture (s : State) (ln : LaneId) (row : Row) (l : List PulseReport) : (s.setHalfList ln row l).capture = s.capture := rfl
@[simp] theorem State.setHalfList_link (s : State) (ln : LaneId) (row : Row) (l : List PulseReport) : (s.setHalfList ln row l).link = s.link := rfl
@[simp] theorem State.setHalfList_mail (s : State) (ln : LaneId) (row : Row) (l : List PulseReport) : (s.setHalfList ln row l).mail = s.mail := rfl

/-! ### raise -/

@[simp] theorem State.raise_pending (s : State) (n : Notice) : (s.raise n).pending = s.pending := rfl
@[simp] theorem State.raise_tb (s : State) (n : Notice) : (s.raise n).tb = s.tb := rfl
@[simp] theorem State.raise_lanes (s : State) (n : Notice) : (s.raise n).lanes = s.lanes := rfl
@[simp] theorem State.raise_temp (s : State) (n : Notice) : (s.raise n).temp = s.temp := rfl
@[simp] theorem State.raise_drift (s : State) (n : Notice) : (s.raise n).drift = s.drift := rfl
@[simp] theorem State.raise_tables (s : State) (n : Notice) : (s.raise n).tables = s.tables := rfl
@[simp] theorem State.raise_store (s : State) (n : Notice) : (s.raise n).store = s.store := rfl
@[simp] theorem State.raise_tally (s : State) (n : Notice) : (s.raise n).tally = s.tally := rfl
@[simp] theorem State.raise_capture (s : State) (n : Notice) : (s.raise n).capture = s.capture := rfl
@[simp] theorem State.raise_link (s : State) (n : Notice) :
    (s.raise n).link = { s.link with outgoing := raiseIn s.link.outgoing n } := rfl
@[simp] theorem State.raise_mail (s : State) (n : Notice) : (s.raise n).mail = s.mail := rfl

/-! ### raiseChannel -/

@[simp] theorem State.raiseChannel_pending (s : State) (ch : ChannelId) : (s.raiseChannel ch).pending = s.pending := rfl
@[simp] theorem State.raiseChannel_tb (s : State) (ch : ChannelId) : (s.raiseChannel ch).tb = s.tb := rfl
@[simp] theorem State.raiseChannel_lanes (s : State) (ch : ChannelId) : (s.raiseChannel ch).lanes = s.lanes := rfl
@[simp] theorem State.raiseChannel_temp (s : State) (ch : ChannelId) : (s.raiseChannel ch).temp = s.temp := rfl
@[simp] theorem State.raiseChannel_drift (s : State) (ch : ChannelId) : (s.raiseChannel ch).drift = s.drift := rfl
@[simp] theorem State.raiseChannel_tables (s : State) (ch : ChannelId) : (s.raiseChannel ch).tables = s.tables := rfl
@[simp] theorem State.raiseChannel_store (s : State) (ch : ChannelId) : (s.raiseChannel ch).store = s.store := rfl
@[simp] theorem State.raiseChannel_tally (s : State) (ch : ChannelId) : (s.raiseChannel ch).tally = s.tally := rfl
@[simp] theorem State.raiseChannel_capture (s : State) (ch : ChannelId) : (s.raiseChannel ch).capture = s.capture := rfl
@[simp] theorem State.raiseChannel_mail (s : State) (ch : ChannelId) : (s.raiseChannel ch).mail = s.mail := rfl

/-! ### raiseProbe -/

@[simp] theorem State.raiseProbe_pending (s : State) (p : ProbeId) : (s.raiseProbe p).pending = s.pending := rfl
@[simp] theorem State.raiseProbe_tb (s : State) (p : ProbeId) : (s.raiseProbe p).tb = s.tb := rfl
@[simp] theorem State.raiseProbe_lanes (s : State) (p : ProbeId) : (s.raiseProbe p).lanes = s.lanes := rfl
@[simp] theorem State.raiseProbe_temp (s : State) (p : ProbeId) : (s.raiseProbe p).temp = s.temp := rfl
@[simp] theorem State.raiseProbe_drift (s : State) (p : ProbeId) : (s.raiseProbe p).drift = s.drift := rfl
@[simp] theorem State.raiseProbe_tables (s : State) (p : ProbeId) : (s.raiseProbe p).tables = s.tables := rfl
@[simp] theorem State.raiseProbe_store (s : State) (p : ProbeId) : (s.raiseProbe p).store = s.store := rfl
@[simp] theorem State.raiseProbe_tally (s : State) (p : ProbeId) : (s.raiseProbe p).tally = s.tally := rfl
@[simp] theorem State.raiseProbe_capture (s : State) (p : ProbeId) : (s.raiseProbe p).capture = s.capture := rfl
@[simp] theorem State.raiseProbe_mail (s : State) (p : ProbeId) : (s.raiseProbe p).mail = s.mail := rfl

/-! ### raiseLane -/

@[simp] theorem State.raiseLane_pending (s : State) (ln : LaneId) : (s.raiseLane ln).pending = s.pending := rfl
@[simp] theorem State.raiseLane_tb (s : State) (ln : LaneId) : (s.raiseLane ln).tb = s.tb := rfl
@[simp] theorem State.raiseLane_lanes (s : State) (ln : LaneId) : (s.raiseLane ln).lanes = s.lanes := rfl
@[simp] theorem State.raiseLane_temp (s : State) (ln : LaneId) : (s.raiseLane ln).temp = s.temp := rfl
@[simp] theorem State.raiseLane_drift (s : State) (ln : LaneId) : (s.raiseLane ln).drift = s.drift := rfl
@[simp] theorem State.raiseLane_tables (s : State) (ln : LaneId) : (s.raiseLane ln).tables = s.tables := rfl
@[simp] theorem State.raiseLane_store (s : State) (ln : LaneId) : (s.raiseLane ln).store = s.store := rfl
@[simp] theorem State.raiseLane_tally (s : State) (ln : LaneId) : (s.raiseLane ln).tally = s.tally := rfl
@[simp] theorem State.raiseLane_capture (s : State) (ln : LaneId) : (s.raiseLane ln).capture = s.capture := rfl
@[simp] theorem State.raiseLane_mail (s : State) (ln : LaneId) : (s.raiseLane ln).mail = s.mail := rfl

/-! ### raiseTimebase -/

@[simp] theorem State.raiseTimebase_pending (s : State) : (s.raiseTimebase).pending = s.pending := rfl
@[simp] theorem State.raiseTimebase_tb (s : State) : (s.raiseTimebase).tb = s.tb := rfl
@[simp] theorem State.raiseTimebase_lanes (s : State) : (s.raiseTimebase).lanes = s.lanes := rfl
@[simp] theorem State.raiseTimebase_temp (s : State) : (s.raiseTimebase).temp = s.temp := rfl
@[simp] theorem State.raiseTimebase_drift (s : State) : (s.raiseTimebase).drift = s.drift := rfl
@[simp] theorem State.raiseTimebase_tables (s : State) : (s.raiseTimebase).tables = s.tables := rfl
@[simp] theorem State.raiseTimebase_store (s : State) : (s.raiseTimebase).store = s.store := rfl
@[simp] theorem State.raiseTimebase_tally (s : State) : (s.raiseTimebase).tally = s.tally := rfl
@[simp] theorem State.raiseTimebase_capture (s : State) : (s.raiseTimebase).capture = s.capture := rfl
@[simp] theorem State.raiseTimebase_mail (s : State) : (s.raiseTimebase).mail = s.mail := rfl

/-! ### answer -/

@[simp] theorem State.answer_pending (s : State) (kind tag : Byte) (body reply : List Byte) : (s.answer kind tag body reply).pending = s.pending := rfl
@[simp] theorem State.answer_tb (s : State) (kind tag : Byte) (body reply : List Byte) : (s.answer kind tag body reply).tb = s.tb := rfl
@[simp] theorem State.answer_lanes (s : State) (kind tag : Byte) (body reply : List Byte) : (s.answer kind tag body reply).lanes = s.lanes := rfl
@[simp] theorem State.answer_temp (s : State) (kind tag : Byte) (body reply : List Byte) : (s.answer kind tag body reply).temp = s.temp := rfl
@[simp] theorem State.answer_drift (s : State) (kind tag : Byte) (body reply : List Byte) : (s.answer kind tag body reply).drift = s.drift := rfl
@[simp] theorem State.answer_tables (s : State) (kind tag : Byte) (body reply : List Byte) : (s.answer kind tag body reply).tables = s.tables := rfl
@[simp] theorem State.answer_store (s : State) (kind tag : Byte) (body reply : List Byte) : (s.answer kind tag body reply).store = s.store := rfl
@[simp] theorem State.answer_tally (s : State) (kind tag : Byte) (body reply : List Byte) : (s.answer kind tag body reply).tally = s.tally := rfl
@[simp] theorem State.answer_capture (s : State) (kind tag : Byte) (body reply : List Byte) : (s.answer kind tag body reply).capture = s.capture := rfl
@[simp] theorem State.answer_mail (s : State) (kind tag : Byte) (body reply : List Byte) : (s.answer kind tag body reply).mail = s.mail := rfl

/-! ### setTally -/

@[simp] theorem State.setTally_pending (s : State) (ln : LaneId) (t : Tally) : (s.setTally ln t).pending = s.pending := rfl
@[simp] theorem State.setTally_tb (s : State) (ln : LaneId) (t : Tally) : (s.setTally ln t).tb = s.tb := rfl
@[simp] theorem State.setTally_lanes (s : State) (ln : LaneId) (t : Tally) : (s.setTally ln t).lanes = s.lanes := rfl
@[simp] theorem State.setTally_temp (s : State) (ln : LaneId) (t : Tally) : (s.setTally ln t).temp = s.temp := rfl
@[simp] theorem State.setTally_drift (s : State) (ln : LaneId) (t : Tally) : (s.setTally ln t).drift = s.drift := rfl
@[simp] theorem State.setTally_tables (s : State) (ln : LaneId) (t : Tally) : (s.setTally ln t).tables = s.tables := rfl
@[simp] theorem State.setTally_store (s : State) (ln : LaneId) (t : Tally) : (s.setTally ln t).store = s.store := rfl
@[simp] theorem State.setTally_tally (s : State) (ln : LaneId) (t : Tally) :
    (s.setTally ln t).tally = { s.tally with active := s.tally.active.set ln t } := rfl
@[simp] theorem State.setTally_capture (s : State) (ln : LaneId) (t : Tally) : (s.setTally ln t).capture = s.capture := rfl
@[simp] theorem State.setTally_link (s : State) (ln : LaneId) (t : Tally) : (s.setTally ln t).link = s.link := rfl
@[simp] theorem State.setTally_mail (s : State) (ln : LaneId) (t : Tally) : (s.setTally ln t).mail = s.mail := rfl

/-! ### countSpike -/

@[simp] theorem State.countSpike_pending (s : State) (ln : LaneId) : (s.countSpike ln).pending = s.pending := rfl
@[simp] theorem State.countSpike_tb (s : State) (ln : LaneId) : (s.countSpike ln).tb = s.tb := rfl
@[simp] theorem State.countSpike_lanes (s : State) (ln : LaneId) : (s.countSpike ln).lanes = s.lanes := rfl
@[simp] theorem State.countSpike_temp (s : State) (ln : LaneId) : (s.countSpike ln).temp = s.temp := rfl
@[simp] theorem State.countSpike_drift (s : State) (ln : LaneId) : (s.countSpike ln).drift = s.drift := rfl
@[simp] theorem State.countSpike_tables (s : State) (ln : LaneId) : (s.countSpike ln).tables = s.tables := rfl
@[simp] theorem State.countSpike_store (s : State) (ln : LaneId) : (s.countSpike ln).store = s.store := rfl
@[simp] theorem State.countSpike_capture (s : State) (ln : LaneId) : (s.countSpike ln).capture = s.capture := rfl
@[simp] theorem State.countSpike_link (s : State) (ln : LaneId) : (s.countSpike ln).link = s.link := rfl
@[simp] theorem State.countSpike_mail (s : State) (ln : LaneId) : (s.countSpike ln).mail = s.mail := rfl

/-! ### reopenTallies -/

@[simp] theorem State.reopenTallies_pending (s : State) : (s.reopenTallies).pending = s.pending := rfl
@[simp] theorem State.reopenTallies_tb (s : State) : (s.reopenTallies).tb = s.tb := rfl
@[simp] theorem State.reopenTallies_lanes (s : State) : (s.reopenTallies).lanes = s.lanes := rfl
@[simp] theorem State.reopenTallies_temp (s : State) : (s.reopenTallies).temp = s.temp := rfl
@[simp] theorem State.reopenTallies_drift (s : State) : (s.reopenTallies).drift = s.drift := rfl
@[simp] theorem State.reopenTallies_tables (s : State) : (s.reopenTallies).tables = s.tables := rfl
@[simp] theorem State.reopenTallies_store (s : State) : (s.reopenTallies).store = s.store := rfl
@[simp] theorem State.reopenTallies_tally (s : State) :
    (s.reopenTallies).tally = { s.tally with active := Four.fill (Tally.opened s.temp.tw), openedAt := s.tb.seconds, extension := 0 } := rfl
@[simp] theorem State.reopenTallies_capture (s : State) : (s.reopenTallies).capture = s.capture := rfl
@[simp] theorem State.reopenTallies_link (s : State) : (s.reopenTallies).link = s.link := rfl
@[simp] theorem State.reopenTallies_mail (s : State) : (s.reopenTallies).mail = s.mail := rfl

/-! ### setDriftBand -/

@[simp] theorem State.setDriftBand_pending (s : State) (ln : LaneId) (b : Band) (x : DriftBand) : (s.setDriftBand ln b x).pending = s.pending := rfl
@[simp] theorem State.setDriftBand_tb (s : State) (ln : LaneId) (b : Band) (x : DriftBand) : (s.setDriftBand ln b x).tb = s.tb := rfl
@[simp] theorem State.setDriftBand_lanes (s : State) (ln : LaneId) (b : Band) (x : DriftBand) : (s.setDriftBand ln b x).lanes = s.lanes := rfl
@[simp] theorem State.setDriftBand_temp (s : State) (ln : LaneId) (b : Band) (x : DriftBand) : (s.setDriftBand ln b x).temp = s.temp := rfl
@[simp] theorem State.setDriftBand_tables (s : State) (ln : LaneId) (b : Band) (x : DriftBand) : (s.setDriftBand ln b x).tables = s.tables := rfl
@[simp] theorem State.setDriftBand_store (s : State) (ln : LaneId) (b : Band) (x : DriftBand) : (s.setDriftBand ln b x).store = s.store := rfl
@[simp] theorem State.setDriftBand_tally (s : State) (ln : LaneId) (b : Band) (x : DriftBand) : (s.setDriftBand ln b x).tally = s.tally := rfl
@[simp] theorem State.setDriftBand_capture (s : State) (ln : LaneId) (b : Band) (x : DriftBand) : (s.setDriftBand ln b x).capture = s.capture := rfl
@[simp] theorem State.setDriftBand_link (s : State) (ln : LaneId) (b : Band) (x : DriftBand) : (s.setDriftBand ln b x).link = s.link := rfl
@[simp] theorem State.setDriftBand_mail (s : State) (ln : LaneId) (b : Band) (x : DriftBand) : (s.setDriftBand ln b x).mail = s.mail := rfl

/-! ### setFrozen -/

@[simp] theorem State.setFrozen_pending (s : State) (ln : LaneId) (on : Bool) : (s.setFrozen ln on).pending = s.pending := rfl
@[simp] theorem State.setFrozen_tb (s : State) (ln : LaneId) (on : Bool) : (s.setFrozen ln on).tb = s.tb := rfl
@[simp] theorem State.setFrozen_lanes (s : State) (ln : LaneId) (on : Bool) : (s.setFrozen ln on).lanes = s.lanes := rfl
@[simp] theorem State.setFrozen_temp (s : State) (ln : LaneId) (on : Bool) : (s.setFrozen ln on).temp = s.temp := rfl
@[simp] theorem State.setFrozen_tables (s : State) (ln : LaneId) (on : Bool) : (s.setFrozen ln on).tables = s.tables := rfl
@[simp] theorem State.setFrozen_store (s : State) (ln : LaneId) (on : Bool) : (s.setFrozen ln on).store = s.store := rfl
@[simp] theorem State.setFrozen_tally (s : State) (ln : LaneId) (on : Bool) : (s.setFrozen ln on).tally = s.tally := rfl
@[simp] theorem State.setFrozen_capture (s : State) (ln : LaneId) (on : Bool) : (s.setFrozen ln on).capture = s.capture := rfl
@[simp] theorem State.setFrozen_link (s : State) (ln : LaneId) (on : Bool) : (s.setFrozen ln on).link = s.link := rfl
@[simp] theorem State.setFrozen_mail (s : State) (ln : LaneId) (on : Bool) : (s.setFrozen ln on).mail = s.mail := rfl

/-! ### setStaging -/

@[simp] theorem State.setStaging_pending (s : State) (x : Option Staging) : (s.setStaging x).pending = s.pending := rfl
@[simp] theorem State.setStaging_tb (s : State) (x : Option Staging) : (s.setStaging x).tb = s.tb := rfl
@[simp] theorem State.setStaging_lanes (s : State) (x : Option Staging) : (s.setStaging x).lanes = s.lanes := rfl
@[simp] theorem State.setStaging_temp (s : State) (x : Option Staging) : (s.setStaging x).temp = s.temp := rfl
@[simp] theorem State.setStaging_drift (s : State) (x : Option Staging) : (s.setStaging x).drift = s.drift := rfl
@[simp] theorem State.setStaging_tables (s : State) (x : Option Staging) :
    (s.setStaging x).tables = { s.tables with staging := x } := rfl
@[simp] theorem State.setStaging_store (s : State) (x : Option Staging) : (s.setStaging x).store = s.store := rfl
@[simp] theorem State.setStaging_tally (s : State) (x : Option Staging) : (s.setStaging x).tally = s.tally := rfl
@[simp] theorem State.setStaging_capture (s : State) (x : Option Staging) : (s.setStaging x).capture = s.capture := rfl
@[simp] theorem State.setStaging_link (s : State) (x : Option Staging) : (s.setStaging x).link = s.link := rfl
@[simp] theorem State.setStaging_mail (s : State) (x : Option Staging) : (s.setStaging x).mail = s.mail := rfl

/-! ### setLink -/

@[simp] theorem State.setLink_pending (s : State) (l : Link) : (s.setLink l).pending = s.pending := rfl
@[simp] theorem State.setLink_tb (s : State) (l : Link) : (s.setLink l).tb = s.tb := rfl
@[simp] theorem State.setLink_lanes (s : State) (l : Link) : (s.setLink l).lanes = s.lanes := rfl
@[simp] theorem State.setLink_temp (s : State) (l : Link) : (s.setLink l).temp = s.temp := rfl
@[simp] theorem State.setLink_drift (s : State) (l : Link) : (s.setLink l).drift = s.drift := rfl
@[simp] theorem State.setLink_tables (s : State) (l : Link) : (s.setLink l).tables = s.tables := rfl
@[simp] theorem State.setLink_store (s : State) (l : Link) : (s.setLink l).store = s.store := rfl
@[simp] theorem State.setLink_tally (s : State) (l : Link) : (s.setLink l).tally = s.tally := rfl
@[simp] theorem State.setLink_capture (s : State) (l : Link) : (s.setLink l).capture = s.capture := rfl
@[simp] theorem State.setLink_link (s : State) (l : Link) :
    (s.setLink l).link = l := rfl
@[simp] theorem State.setLink_mail (s : State) (l : Link) : (s.setLink l).mail = s.mail := rfl

/-! ### startGate -/

@[simp] theorem State.startGate_pending (s : State) (p : Option ProbeId) : (s.startGate p).pending = s.pending := rfl
@[simp] theorem State.startGate_tb (s : State) (p : Option ProbeId) : (s.startGate p).tb = s.tb := rfl
@[simp] theorem State.startGate_lanes (s : State) (p : Option ProbeId) : (s.startGate p).lanes = s.lanes := rfl
@[simp] theorem State.startGate_temp (s : State) (p : Option ProbeId) :
    (s.startGate p).temp = s.temp.startGate p s.tb.t := rfl
@[simp] theorem State.startGate_drift (s : State) (p : Option ProbeId) : (s.startGate p).drift = s.drift := rfl
@[simp] theorem State.startGate_tables (s : State) (p : Option ProbeId) : (s.startGate p).tables = s.tables := rfl
@[simp] theorem State.startGate_store (s : State) (p : Option ProbeId) : (s.startGate p).store = s.store := rfl
@[simp] theorem State.startGate_tally (s : State) (p : Option ProbeId) : (s.startGate p).tally = s.tally := rfl
@[simp] theorem State.startGate_capture (s : State) (p : Option ProbeId) : (s.startGate p).capture = s.capture := rfl
@[simp] theorem State.startGate_link (s : State) (p : Option ProbeId) : (s.startGate p).link = s.link := rfl
@[simp] theorem State.startGate_mail (s : State) (p : Option ProbeId) : (s.startGate p).mail = s.mail := rfl

/-! ### countRejected -/

@[simp] theorem State.countRejected_pending (s : State) : (s.countRejected).pending = s.pending := rfl
@[simp] theorem State.countRejected_tb (s : State) :
    (s.countRejected).tb = { s.tb with rejectedEdges := countUp s.tb.rejectedEdges } := rfl
@[simp] theorem State.countRejected_lanes (s : State) : (s.countRejected).lanes = s.lanes := rfl
@[simp] theorem State.countRejected_temp (s : State) : (s.countRejected).temp = s.temp := rfl
@[simp] theorem State.countRejected_drift (s : State) : (s.countRejected).drift = s.drift := rfl
@[simp] theorem State.countRejected_tables (s : State) : (s.countRejected).tables = s.tables := rfl
@[simp] theorem State.countRejected_store (s : State) : (s.countRejected).store = s.store := rfl
@[simp] theorem State.countRejected_tally (s : State) : (s.countRejected).tally = s.tally := rfl
@[simp] theorem State.countRejected_capture (s : State) : (s.countRejected).capture = s.capture := rfl
@[simp] theorem State.countRejected_link (s : State) : (s.countRejected).link = s.link := rfl
@[simp] theorem State.countRejected_mail (s : State) : (s.countRejected).mail = s.mail := rfl

/-! ### enterLock -/

@[simp] theorem State.enterLock_pending (s : State) (l : LockState) : (s.enterLock l).pending = s.pending := rfl
@[simp] theorem State.enterLock_tb (s : State) (l : LockState) :
    (s.enterLock l).tb = { s.tb with lock := l, run := [], rejectRun := 0 } := rfl
@[simp] theorem State.enterLock_lanes (s : State) (l : LockState) : (s.enterLock l).lanes = s.lanes := rfl
@[simp] theorem State.enterLock_temp (s : State) (l : LockState) : (s.enterLock l).temp = s.temp := rfl
@[simp] theorem State.enterLock_drift (s : State) (l : LockState) : (s.enterLock l).drift = s.drift := rfl
@[simp] theorem State.enterLock_tables (s : State) (l : LockState) : (s.enterLock l).tables = s.tables := rfl
@[simp] theorem State.enterLock_store (s : State) (l : LockState) : (s.enterLock l).store = s.store := rfl
@[simp] theorem State.enterLock_tally (s : State) (l : LockState) : (s.enterLock l).tally = s.tally := rfl
@[simp] theorem State.enterLock_capture (s : State) (l : LockState) : (s.enterLock l).capture = s.capture := rfl
@[simp] theorem State.enterLock_mail (s : State) (l : LockState) : (s.enterLock l).mail = s.mail := rfl

/-! ### clearReported -/

@[simp] theorem State.clearReported_pending (s : State) : (s.clearReported).pending = s.pending := rfl
@[simp] theorem State.clearReported_tb (s : State) :
    (s.clearReported).tb = { s.tb with rejectedEdges := 0 } := rfl
@[simp] theorem State.clearReported_lanes (s : State) : (s.clearReported).lanes = s.lanes := rfl
@[simp] theorem State.clearReported_temp (s : State) : (s.clearReported).temp = s.temp := rfl
@[simp] theorem State.clearReported_drift (s : State) : (s.clearReported).drift = s.drift := rfl
@[simp] theorem State.clearReported_tables (s : State) : (s.clearReported).tables = s.tables := rfl
@[simp] theorem State.clearReported_store (s : State) :
    (s.clearReported).store = { s.store with dropped := 0 } := rfl
@[simp] theorem State.clearReported_tally (s : State) : (s.clearReported).tally = s.tally := rfl
@[simp] theorem State.clearReported_capture (s : State) : (s.clearReported).capture = s.capture := rfl
@[simp] theorem State.clearReported_link (s : State) :
    (s.clearReported).link = { s.link with badFrames := 0, overruns := 0 } := rfl
@[simp] theorem State.clearReported_mail (s : State) : (s.clearReported).mail = s.mail := rfl

/-! ### Lanes, matchers, assemblers and units read after an update -/

@[simp] theorem State.matcher_setMatcher (s : State) (ln : LaneId) (m : Matcher) : (s.setMatcher ln m).matcher ln = m := by
  simp [State.matcher]

@[simp] theorem State.asm_setMatcher (s : State) (ln k : LaneId) (m : Matcher) : (s.setMatcher ln m).asm k = s.asm k := by
  simp only [State.asm, State.setMatcher_lanes, Four.get_set]; split <;> simp_all

@[simp] theorem State.unit_setMatcher (s : State) (ln : LaneId) (m : Matcher) (ch : ChannelId) :
    (s.setMatcher ln m).unit ch = s.unit ch := by
  simp only [State.unit, State.setMatcher_lanes, Four.get_set]; split <;> simp_all

theorem State.matcher_setMatcher_ne (s : State) {ln k : LaneId} (m : Matcher) (h : k ≠ ln) :
    (s.setMatcher ln m).matcher k = s.matcher k := by
  simp [State.matcher, Four.get_set_ne _ _ h]

@[simp] theorem State.asm_setAsm (s : State) (ln : LaneId) (a : Assembler) : (s.setAsm ln a).asm ln = a := by
  simp [State.asm]

@[simp] theorem State.matcher_setAsm (s : State) (ln k : LaneId) (a : Assembler) :
    (s.setAsm ln a).matcher k = s.matcher k := by
  simp only [State.matcher, State.setAsm_lanes, Four.get_set]; split <;> simp_all

@[simp] theorem State.unit_setAsm (s : State) (ln : LaneId) (a : Assembler) (ch : ChannelId) :
    (s.setAsm ln a).unit ch = s.unit ch := by
  simp only [State.unit, State.setAsm_lanes, Four.get_set]; split <;> simp_all

theorem State.asm_setAsm_ne (s : State) {ln k : LaneId} (a : Assembler) (h : k ≠ ln) :
    (s.setAsm ln a).asm k = s.asm k := by
  simp [State.asm, Four.get_set_ne _ _ h]

@[simp] theorem State.unit_setUnit (s : State) (ch : ChannelId) (u : ChannelUnit) : (s.setUnit ch u).unit ch = u := by
  simp [State.unit, State.setUnit]

@[simp] theorem State.matcher_setUnit (s : State) (ch : ChannelId) (u : ChannelUnit) (k : LaneId) :
    (s.setUnit ch u).matcher k = s.matcher k := by
  simp only [State.matcher, State.setUnit, State.setLane_lanes, Four.get_set]; split <;> simp_all

@[simp] theorem State.asm_setUnit (s : State) (ch : ChannelId) (u : ChannelUnit) (k : LaneId) :
    (s.setUnit ch u).asm k = s.asm k := by
  simp only [State.asm, State.setUnit, State.setLane_lanes, Four.get_set]; split <;> simp_all

theorem State.unit_setUnit_ne (s : State) {ch c : ChannelId} (u : ChannelUnit) (h : c ≠ ch) :
    (s.setUnit ch u).unit c = s.unit c := by
  obtain ⟨l, p⟩ := ch
  obtain ⟨l', p'⟩ := c
  simp only [State.unit, State.setUnit, State.setLane_lanes, Four.get_set]
  split
  · next hl =>
      subst hl
      have hp : p' ≠ p := fun e => h (by rw [e])
      simp [Four.get_set_ne _ _ hp]
  · rfl

/-! ### Notices and replies touch nothing of the link but its frames and the marks of its requests -/

@[simp] theorem State.raise_link_requests (s : State) (n : Notice) : (s.raise n).link.requests = s.link.requests := rfl
@[simp] theorem State.raise_link_sending (s : State) (n : Notice) : (s.raise n).link.sending = s.link.sending := rfl
@[simp] theorem State.raise_link_rx (s : State) (n : Notice) : (s.raise n).link.rx = s.link.rx := rfl
@[simp] theorem State.raise_link_overrunSlot (s : State) (n : Notice) :
    (s.raise n).link.overrunSlot = s.link.overrunSlot := rfl
@[simp] theorem State.raise_link_badFrames (s : State) (n : Notice) : (s.raise n).link.badFrames = s.link.badFrames := rfl
@[simp] theorem State.raise_link_overruns (s : State) (n : Notice) : (s.raise n).link.overruns = s.link.overruns := rfl

@[simp] theorem State.answer_link_rx (s : State) (k t : Byte) (b r : List Byte) : (s.answer k t b r).link.rx = s.link.rx := rfl
@[simp] theorem State.answer_link_sending (s : State) (k t : Byte) (b r : List Byte) :
    (s.answer k t b r).link.sending = s.link.sending := rfl
@[simp] theorem State.answer_link_overrunSlot (s : State) (k t : Byte) (b r : List Byte) :
    (s.answer k t b r).link.overrunSlot = s.link.overrunSlot := rfl
@[simp] theorem State.answer_link_rate (s : State) (k t : Byte) (b r : List Byte) :
    (s.answer k t b r).link.rate = s.link.rate := rfl
@[simp] theorem State.answer_link_badFrames (s : State) (k t : Byte) (b r : List Byte) :
    (s.answer k t b r).link.badFrames = s.link.badFrames := rfl
@[simp] theorem State.answer_link_overruns (s : State) (k t : Byte) (b r : List Byte) :
    (s.answer k t b r).link.overruns = s.link.overruns := rfl
@[simp] theorem State.answer_link_requests (s : State) (k t : Byte) (b r : List Byte) :
    (s.answer k t b r).link.requests = (serveFirst k t b s.link.requests).1 := rfl
@[simp] theorem State.answer_link_outgoing (s : State) (k t : Byte) (b r : List Byte) :
    (s.answer k t b r).link.outgoing = s.link.outgoing ++
      [.reply { kind := k + 0x80, tag := t, body := r,
                source := if (serveFirst k t b s.link.requests).2 then .queued else .direct }] := rfl

end Machine

end Sys2Proof
end

