-- ==== Sys2Proof/Laws/Frames.lean ====
section
/-! SUPPORT. What the operations of the traffic path leave alone: one frame per operation, from the freeing of a generation up
to the matching of a pulse. Provers cite these instead of unfolding the operations. -/

namespace Sys2Proof.Machine

/-! ## Channel units and notices -/

/-- Two states that differ at most in their lanes and in the frames of their links. -/
structure UnitFrame (s t : State) : Prop where
  pending : t.pending = s.pending
  tb : t.tb = s.tb
  temp : t.temp = s.temp
  drift : t.drift = s.drift
  tables : t.tables = s.tables
  store : t.store = s.store
  tally : t.tally = s.tally
  capture : t.capture = s.capture
  mail : t.mail = s.mail
  link : t.link = { s.link with outgoing := t.link.outgoing }

theorem UnitFrame.refl (s : State) : UnitFrame s s := by constructor <;> rfl

theorem UnitFrame.trans {s t u : State} (h : UnitFrame s t) (k : UnitFrame t u) : UnitFrame s u where
  pending := k.pending.trans h.pending
  tb := k.tb.trans h.tb
  temp := k.temp.trans h.temp
  drift := k.drift.trans h.drift
  tables := k.tables.trans h.tables
  store := k.store.trans h.store
  tally := k.tally.trans h.tally
  capture := k.capture.trans h.capture
  mail := k.mail.trans h.mail
  link := by rw [k.link, h.link]

theorem State.raise_frame (s : State) (n : Notice) : UnitFrame s (s.raise n) := by constructor <;> rfl

theorem State.setLane_frame (s : State) (ln : LaneId) (l : Lane) : UnitFrame s (s.setLane ln l) := by constructor <;> rfl

theorem State.setUnit_frame (s : State) (ch : ChannelId) (u : ChannelUnit) : UnitFrame s (s.setUnit ch u) := by
  constructor <;> rfl

theorem State.raiseReported_frame (s : State) (r : Reported) (ln : LaneId) : UnitFrame s (s.raiseReported r ln) := by
  unfold State.raiseReported
  split
  · exact UnitFrame.refl s
  · exact s.raise_frame _

theorem State.putUnit_frame (s : State) (ch : ChannelId) (u : ChannelUnit) : UnitFrame s (s.putUnit ch u) := by
  unfold State.putUnit
  split
  · exact s.setUnit_frame ch u
  · exact ((s.setUnit_frame ch u).trans ((s.setUnit ch u).raise_frame _)).trans (State.raiseReported_frame _ _ _)

@[simp] theorem State.raiseReported_lanes (s : State) (r : Reported) (ln : LaneId) :
    (s.raiseReported r ln).lanes = s.lanes := by
  unfold State.raiseReported; split <;> rfl

@[simp] theorem State.putUnit_lanes (s : State) (ch : ChannelId) (u : ChannelUnit) :
    (s.putUnit ch u).lanes = (s.setUnit ch u).lanes := by
  unfold State.putUnit; split <;> simp

@[simp] theorem State.putUnit_unit (s : State) (ch : ChannelId) (u : ChannelUnit) : (s.putUnit ch u).unit ch = u := by
  have h : (s.putUnit ch u).unit ch = (s.setUnit ch u).unit ch := by simp only [State.unit, State.putUnit_lanes]
  rw [h, State.unit_setUnit]

theorem State.putUnit_unit_ne (s : State) {ch c : ChannelId} (u : ChannelUnit) (h : c ≠ ch) :
    (s.putUnit ch u).unit c = s.unit c := by
  have e : (s.putUnit ch u).unit c = (s.setUnit ch u).unit c := by simp only [State.unit, State.putUnit_lanes]
  rw [e, State.unit_setUnit_ne s u h]

@[simp] theorem State.putUnit_matcher (s : State) (ch : ChannelId) (u : ChannelUnit) (k : LaneId) :
    (s.putUnit ch u).matcher k = s.matcher k := by
  have e : (s.putUnit ch u).matcher k = (s.setUnit ch u).matcher k := by simp only [State.matcher, State.putUnit_lanes]
  rw [e, State.matcher_setUnit]

@[simp] theorem State.putUnit_asm (s : State) (ch : ChannelId) (u : ChannelUnit) (k : LaneId) :
    (s.putUnit ch u).asm k = s.asm k := by
  have e : (s.putUnit ch u).asm k = (s.setUnit ch u).asm k := by simp only [State.asm, State.putUnit_lanes]
  rw [e, State.asm_setUnit]

/-! ## The traffic path -/

/-- Two states that differ at most where the matcher and the assembler reach: the lanes, the freeing of the retiring
generation, the serial counter, the capture, the frames of the link, and the records on their way. -/
structure TrafficFrame (s t : State) : Prop where
  pending : t.pending = s.pending
  tb : t.tb = s.tb
  temp : t.temp = s.temp
  drift : t.drift = s.drift
  tally : t.tally = s.tally
  tables : t.tables = { s.tables with retiring := t.tables.retiring }
  store : t.store = { s.store with serial := t.store.serial }
  link : t.link = { s.link with outgoing := t.link.outgoing }
  mail : t.mail = { s.mail with
    toStore := t.mail.toStore, toTally := t.mail.toTally, toDrift := t.mail.toDrift, toCapture := t.mail.toCapture,
    toUnits := t.mail.toUnits }
  units : ∀ ch, t.unit ch = s.unit ch

theorem TrafficFrame.refl (s : State) : TrafficFrame s s := by constructor <;> intros <;> rfl

theorem TrafficFrame.trans {s t u : State} (h : TrafficFrame s t) (k : TrafficFrame t u) : TrafficFrame s u where
  pending := k.pending.trans h.pending
  tb := k.tb.trans h.tb
  temp := k.temp.trans h.temp
  drift := k.drift.trans h.drift
  tally := k.tally.trans h.tally
  tables := by rw [k.tables, h.tables]
  store := by rw [k.store, h.store]
  link := by rw [k.link, h.link]
  mail := by rw [k.mail, h.mail]
  units := fun ch => (k.units ch).trans (h.units ch)

/-- A change of the link's frames alone, or of the units' own lane data that keeps the units. -/
theorem UnitFrame.traffic {s t : State} (h : UnitFrame s t) (hu : ∀ ch, t.unit ch = s.unit ch) : TrafficFrame s t where
  pending := h.pending
  tb := h.tb
  temp := h.temp
  drift := h.drift
  tally := h.tally
  tables := by rw [h.tables]
  store := by rw [h.store]
  link := h.link
  mail := by rw [h.mail]
  units := hu

/-- A lane replaced by one with the same units leaves every unit as it was. -/
theorem State.unit_setLane (s : State) (ln : LaneId) (l : Lane) (h : l.units = (s.lanes.get ln).units) (ch : ChannelId) :
    (s.setLane ln l).unit ch = s.unit ch := by
  simp only [State.unit, State.setLane_lanes, Four.get_set]
  split
  · next e => rw [e, h]
  · rfl

theorem State.raiseReported_unit (s : State) (r : Reported) (ln : LaneId) (ch : ChannelId) :
    (s.raiseReported r ln).unit ch = s.unit ch := by
  simp only [State.unit, State.raiseReported_lanes]

theorem State.captureLaneOut_frame (s : State) (ln : LaneId) : TrafficFrame s (s.captureLaneOut ln) := by
  unfold State.captureLaneOut State.takeLaneOut
  repeat' split
  all_goals constructor <;> intros <;> rfl

theorem State.captureOpen_frame (s : State) (ln : LaneId) (t : Tick) : TrafficFrame s (s.captureOpen ln t) := by
  unfold State.captureOpen State.takeOpen
  dsimp only
  split
  · split
    · constructor <;> intros <;> rfl
    · split <;> constructor <;> intros <;> rfl
  · exact TrafficFrame.refl s

theorem State.freeRetiring_frame (s : State) : TrafficFrame s s.freeRetiring := by
  unfold State.freeRetiring
  split
  · exact TrafficFrame.refl s
  · split
    · exact TrafficFrame.refl s
    · constructor <;> intros <;> rfl

theorem State.adopt_frame (s : State) (ln : LaneId) : TrafficFrame s (s.adopt ln) := by
  unfold State.adopt
  split
  · exact TrafficFrame.refl s
  · refine TrafficFrame.trans ?_ ((State.raiseReported_frame _ _ _).traffic (State.raiseReported_unit _ _ _))
    refine TrafficFrame.trans ?_ (State.freeRetiring_frame _)
    have hl : ∀ l : Lane, l.units = (s.lanes.get ln).units → TrafficFrame s (s.setLane ln l) := fun l h =>
      (s.setLane_frame ln l).traffic (s.unit_setLane ln l h)
    split
    · refine TrafficFrame.trans ?_ (State.captureLaneOut_frame _ _)
      apply hl
      rfl
    · apply hl
      rfl

theorem State.adoptIfQuiet_frame (s : State) (ln : LaneId) : TrafficFrame s (s.adoptIfQuiet ln) := by
  unfold State.adoptIfQuiet
  split
  · exact s.adopt_frame ln
  · exact TrafficFrame.refl s

theorem State.adoptAtSplit_frame (s : State) (ln : LaneId) : TrafficFrame s (s.adoptAtSplit ln) := by
  unfold State.adoptAtSplit
  split
  · exact s.adoptIfQuiet_frame ln
  · exact TrafficFrame.refl s

theorem State.settle_frame (s : State) : TrafficFrame s s.settle :=
  (((s.adoptIfQuiet_frame 0).trans (State.adoptIfQuiet_frame _ 1)).trans (State.adoptIfQuiet_frame _ 2)).trans
    (State.adoptIfQuiet_frame _ 3)

theorem State.close_frame (s : State) (ln : LaneId) (ctx : Context) (tailgate timeout : Bool) :
    TrafficFrame s (s.close ln ctx tailgate timeout) := by
  constructor
  case units => intro ch; exact s.unit_setAsm ln _ ch
  all_goals rfl

theorem State.setMatcher_frame (s : State) (ln : LaneId) (m : Matcher) : TrafficFrame s (s.setMatcher ln m) := by
  constructor
  case units => intro ch; exact s.unit_setMatcher ln m ch
  all_goals rfl

theorem State.setHalfList_frame (s : State) (ln : LaneId) (row : Row) (l : List PulseReport) :
    TrafficFrame s (s.setHalfList ln row l) := s.setMatcher_frame ln _

theorem State.setAsm_frame (s : State) (ln : LaneId) (a : Assembler) : TrafficFrame s (s.setAsm ln a) := by
  constructor
  case units => intro ch; exact s.unit_setAsm ln a ch
  all_goals rfl

theorem State.openVehicle_frame (s : State) (ln : LaneId) (axle : Axle) (split : Bool) :
    TrafficFrame s (s.openVehicle ln axle split) := by
  unfold State.openVehicle
  simp only []
  split
  · exact TrafficFrame.refl s
  · exact (s.setAsm_frame ln _).trans (State.captureOpen_frame _ _ _)

theorem State.nextAxle_frame (s : State) (ln : LaneId) (w : LaneItem) (ctx : Context) (axle : Axle) :
    TrafficFrame s (s.nextAxle ln w ctx axle) := by
  unfold State.nextAxle
  simp only []
  split
  · exact ((s.close_frame ln _ _ _).trans (State.adoptAtSplit_frame _ _)).trans (State.openVehicle_frame _ _ _ _)
  · split
    · exact ((s.close_frame ln _ _ _).trans (State.adoptAtSplit_frame _ _)).trans (State.openVehicle_frame _ _ _ _)
    · exact s.setAsm_frame ln _

theorem State.takeAxle_frame (s : State) (ln : LaneId) (axle : Axle) : TrafficFrame s (s.takeAxle ln axle) := by
  unfold State.takeAxle
  split
  · exact s.openVehicle_frame ln axle false
  · exact s.nextAxle_frame ln _ _ axle
  · exact TrafficFrame.refl s

theorem State.deliver_frame (s : State) (ln : LaneId) (axle : Axle) : TrafficFrame s (s.deliver ln axle) :=
  (s.setMatcher_frame ln _).trans (State.takeAxle_frame _ _ _)

theorem State.joinQueue_frame (s : State) (ln : LaneId) (c : Crossing) : TrafficFrame s (s.joinQueue ln c) := by
  unfold State.joinQueue
  simp only []
  split
  · exact s.setMatcher_frame ln _
  · split
    · exact s.setMatcher_frame ln _
    · split
      · exact s.deliver_frame ln _
      · exact (s.setMatcher_frame ln _).trans (State.deliver_frame _ _ _)

theorem State.judgeRow2_frame (s : State) (ln : LaneId) (c : Crossing) : TrafficFrame s (s.judgeRow2 ln c) := by
  unfold State.judgeRow2
  simp only []
  split
  · split
    · exact s.deliver_frame ln _
    · split
      · exact s.deliver_frame ln _
      · exact (s.setMatcher_frame ln _).trans (State.deliver_frame _ _ _)
  · exact TrafficFrame.refl s

theorem State.formCrossing_frame (s : State) (c : Crossing) : TrafficFrame s (s.formCrossing c) := by
  unfold State.formCrossing
  split
  · exact s.joinQueue_frame _ c
  · exact s.judgeRow2_frame _ c

theorem State.resolve_frame (s : State) (ln : LaneId) (row : Row) (r : PulseReport) :
    TrafficFrame s (s.resolve ln row r) := by
  unfold State.resolve
  split
  · exact s.formCrossing_frame _
  · exact (s.setHalfList_frame _ _ _).trans (State.formCrossing_frame _ _)

theorem State.holdPulse_frame (s : State) (ln : LaneId) (row : Row) (r : PulseReport) :
    TrafficFrame s (s.holdPulse ln row r) := by
  unfold State.holdPulse
  split
  · exact s.setHalfList_frame _ _ _
  · split
    · exact s.setHalfList_frame _ _ _
    · exact ((s.setHalfList_frame _ _ _).trans (State.resolve_frame _ _ _ _)).trans (State.setHalfList_frame _ _ _ _)

theorem State.matchPulse_frame (s : State) (w : LaneItem) (r : PulseReport) : TrafficFrame s (s.matchPulse w r) := by
  unfold State.matchPulse
  simp only []
  split
  · exact (s.setHalfList_frame _ _ _).trans (State.formCrossing_frame _ _)
  · exact s.holdPulse_frame _ _ _

/-! ## Notices that only add frames -/

/-- A raise keeps every frame that is no notice, in order. -/
theorem raiseIn_replies (fs : List OutFrame) (n : Notice) :
    (raiseIn fs n).filterMap (fun | .reply r => some r | .notice _ => none) =
      fs.filterMap (fun | .reply r => some r | .notice _ => none) := by
  induction fs with
  | nil => rfl
  | cons f fs ih =>
    cases f with
    | reply r => simp [raiseIn, ih]
    | notice m => simp only [raiseIn]; split <;> simp [ih]

/-! ## Serving -/

/-- Serving changes nothing of the requests but their served marks. -/
theorem serveFirst_requests (kind tag : Byte) (body : List Byte) (l : List Request) :
    (serveFirst kind tag body l).1.map (fun r => (r.kind, r.tag, r.body)) = l.map (fun r => (r.kind, r.tag, r.body)) := by
  induction l with
  | nil => rfl
  | cons r rs ih =>
    simp only [serveFirst]
    split
    · simp [ih]
    · split <;> simp

@[simp] theorem serveFirst_length (kind tag : Byte) (body : List Byte) (l : List Request) :
    (serveFirst kind tag body l).1.length = l.length := by
  have h := congrArg List.length (serveFirst_requests kind tag body l)
  simpa using h

end Sys2Proof.Machine
end

