-- ==== Sys2Proof/Laws/Clock.lean ====
section
/-! SUPPORT. The timebase: what an edge, a boundary and a change of N_ref leave alone, and that the edge keeps the rate in
range. -/

namespace Sys2Proof.Machine

/-! ## A change of N_ref -/

theorem State.setNRef_tb (s : State) (n : Nat) : (s.setNRef n).tb = { s.tb with nRef := n } := by
  unfold State.setNRef
  split
  · next h => subst h; rfl
  · rfl

@[simp] theorem Lane.recompute_units (l : Lane) (n : Nat) : (l.recompute n).units = l.units := by
  unfold Lane.recompute; split <;> rfl

@[simp] theorem Lane.recompute_asm (l : Lane) (n : Nat) : (l.recompute n).asm = l.asm := by
  unfold Lane.recompute; split <;> rfl

theorem Lane.recompute_matcher (l : Lane) (n : Nat) :
    (l.recompute n).matcher = { l.matcher with windows := (l.recompute n).matcher.windows } := by
  unfold Lane.recompute; split <;> rfl

/-- A lane's windows are present after a recomputation exactly when they were, given that they stand with the settings. -/
theorem Lane.recompute_windows_isSome (l : Lane) (n : Nat) (h : l.matcher.windows.isSome = l.asm.working.isSome) :
    (l.recompute n).matcher.windows.isSome = l.matcher.windows.isSome := by
  unfold Lane.recompute; split
  · rfl
  · simp [h]

/-! ## The frame of the clock -/

/-- Two states that differ at most where the timebase reaches: the timebase itself, the windows of the lanes, the tallies and
the frames of the link. -/
structure ClockFrame (s t : State) : Prop where
  pending : t.pending = s.pending
  temp : t.temp = s.temp
  drift : t.drift = s.drift
  tables : t.tables = s.tables
  store : t.store = s.store
  capture : t.capture = s.capture
  mail : t.mail = s.mail
  link : t.link = { s.link with outgoing := t.link.outgoing }
  units : ∀ ch, t.unit ch = s.unit ch
  asm : ∀ ln, t.asm ln = s.asm ln
  matcher : ∀ ln, t.matcher ln = { s.matcher ln with windows := (t.matcher ln).windows }
  windows : ∀ ln, (s.matcher ln).windows.isSome = (s.asm ln).working.isSome →
    (t.matcher ln).windows.isSome = (s.matcher ln).windows.isSome

theorem ClockFrame.refl (s : State) : ClockFrame s s := by constructor <;> intros <;> rfl

theorem ClockFrame.trans {s t u : State} (h : ClockFrame s t) (k : ClockFrame t u) : ClockFrame s u where
  pending := k.pending.trans h.pending
  temp := k.temp.trans h.temp
  drift := k.drift.trans h.drift
  tables := k.tables.trans h.tables
  store := k.store.trans h.store
  capture := k.capture.trans h.capture
  mail := k.mail.trans h.mail
  link := by rw [k.link, h.link]
  units := fun ch => (k.units ch).trans (h.units ch)
  asm := fun ln => (k.asm ln).trans (h.asm ln)
  matcher := fun ln => by rw [k.matcher, h.matcher]
  windows := fun ln e => by
    have e1 := h.windows ln e
    rw [k.windows ln (by rw [e1, h.asm ln, e]), e1]

/-- A change of the timebase alone. -/
theorem ClockFrame.ofTb (s : State) (tb : Timebase) : ClockFrame s { s with tb := tb } := by constructor <;> intros <;> rfl

theorem State.raiseTimebase_clock (s : State) : ClockFrame s s.raiseTimebase := by constructor <;> intros <;> rfl

theorem State.enterLock_clock (s : State) (l : LockState) : ClockFrame s (s.enterLock l) := by
  constructor <;> intros <;> rfl

theorem State.countRejected_clock (s : State) : ClockFrame s s.countRejected := by constructor <;> intros <;> rfl

theorem State.setNRef_clock (s : State) (n : Nat) : ClockFrame s (s.setNRef n) := by
  unfold State.setNRef
  split
  · exact ClockFrame.refl s
  · constructor
    case units => intro ch; simp [State.unit]
    case asm => intro ln; simp [State.asm]
    case matcher => intro ln; simp only [State.matcher, Four.get_map]; exact Lane.recompute_matcher _ _
    case windows =>
      intro ln e
      simp only [State.matcher, Four.get_map]
      exact Lane.recompute_windows_isSome _ _ e
    all_goals rfl

theorem State.examineInterval_clock (s : State) : ClockFrame s s.examineInterval := by
  unfold State.examineInterval
  split
  · split <;> constructor <;> intros <;> rfl
  · exact ClockFrame.refl s

@[simp] theorem State.examineInterval_tb (s : State) : s.examineInterval.tb = s.tb := by
  unfold State.examineInterval
  split
  · split <;> rfl
  · rfl

theorem State.secondBoundary_clock (s : State) : ClockFrame s s.secondBoundary :=
  (ClockFrame.ofTb s _).trans (State.examineInterval_clock _)

theorem State.secondBoundary_tb (s : State) : s.secondBoundary.tb = { s.tb with seconds := s.tb.seconds + 1 } := by
  simp [State.secondBoundary]

/-- Realignment: mark is the present tick, and S advances on an early edge (R9). -/
theorem State.realign_tb (s : State) : s.realign.tb = { s.tb with
    mark := s.tb.t
    seconds := if 2 * ticksSince s.tb.t s.tb.mark < s.tb.nRef then s.tb.seconds else s.tb.seconds + 1 } := by
  unfold State.realign
  simp only []
  split <;> simp [State.secondBoundary_tb]

theorem State.realign_clock (s : State) : ClockFrame s s.realign := by
  unfold State.realign
  simp only []
  split
  · exact ClockFrame.ofTb s _
  · exact (ClockFrame.ofTb s _).trans (State.secondBoundary_clock _)

theorem State.lockOn_clock (s : State) (run : List Nat) : ClockFrame s (s.lockOn run) :=
  ((s.realign_clock.trans (State.setNRef_clock _ _)).trans (ClockFrame.ofTb _ _)).trans (State.enterLock_clock _ _)

theorem State.searchEdge_clock (s : State) (n : Nat) : ClockFrame s (s.searchEdge n) := by
  unfold State.searchEdge
  split
  · split
    · exact s.lockOn_clock _
    · exact ClockFrame.ofTb s _
  · exact (ClockFrame.ofTb s _).trans (State.countRejected_clock _)

theorem State.acceptEdge_clock (s : State) (n : Nat) : ClockFrame s (s.acceptEdge n) :=
  (s.realign_clock.trans (State.setNRef_clock _ _)).trans (ClockFrame.ofTb _ _)

theorem State.rejectEdge_clock (s : State) : ClockFrame s s.rejectEdge := by
  unfold State.rejectEdge
  simp only []
  split
  · exact s.countRejected_clock.trans (State.enterLock_clock _ _)
  · exact s.countRejected_clock.trans (ClockFrame.ofTb _ _)

theorem State.judgeEdge_clock (s : State) (n : Nat) : ClockFrame s (s.judgeEdge n) := by
  unfold State.judgeEdge
  split
  · exact s.searchEdge_clock n
  · exact s.searchEdge_clock n
  · split
    · exact s.acceptEdge_clock n
    · exact s.rejectEdge_clock

theorem State.registerEdge_clock (s : State) : ClockFrame s s.registerEdge := by
  unfold State.registerEdge
  split
  · exact ClockFrame.ofTb s _
  · exact (ClockFrame.ofTb s _).trans (State.judgeEdge_clock _ _)

/-! ## The rate stays in range (R3, R4, R7) -/

theorem isCandidate_iff (n : Nat) : isCandidate n = true ↔ 9800 ≤ n ∧ n ≤ 10200 := within_iff _ _ n

/-- The rounded mean of three candidates is a candidate. -/
theorem mean_in_range (l : List Nat) (h3 : l.length = 3) (h : ∀ n ∈ l, 9800 ≤ n ∧ n ≤ 10200) :
    9800 ≤ roundNat l.sum 3 ∧ roundNat l.sum 3 ≤ 10200 := by
  match l, h3 with
  | [a, b, c], _ =>
    simp only [List.mem_cons, List.not_mem_nil, or_false, forall_eq_or_imp, forall_eq] at h
    simp only [List.sum_cons, List.sum_nil, roundNat]
    omega

/-- A run with a candidate joined holds candidates, at most one more than before. -/
theorem joinRun_range (run : List Nat) (n : Nat) (hn : 9800 ≤ n ∧ n ≤ 10200) (hr : ∀ m ∈ run, 9800 ≤ m ∧ m ≤ 10200) :
    (∀ m ∈ joinRun run n, 9800 ≤ m ∧ m ≤ 10200) ∧ (joinRun run n).length ≤ run.length + 1 := by
  unfold joinRun
  split
  · exact ⟨by simpa using hn, by simp⟩
  · split
    · refine ⟨?_, by simp⟩
      intro m hm
      rw [List.mem_append, List.mem_singleton] at hm
      rcases hm with hm | rfl
      · exact hr m hm
      · exact hn
    · exact ⟨by simpa using hn, by simp⟩

theorem State.searchEdge_rate (s : State) (n : Nat) (h : s.RateInv) : (s.searchEdge n).RateInv := by
  obtain ⟨h1, h2, h3, h4, h5⟩ := h
  unfold State.searchEdge
  split
  · next hc =>
    have hj := joinRun_range s.tb.run n ((isCandidate_iff n).1 hc) h4
    split
    · next hl =>
      have hm := mean_in_range _ hl hj.1
      simp only [State.RateInv, State.lockOn, State.enterLock_tb, State.setNRef_tb]
      exact ⟨hm.1, hm.2, by simp, by simp, by simp⟩
    · next hl =>
      refine ⟨h1, h2, ?_, hj.1, h5⟩
      have := hj.2
      simp only [Config.runLength] at hl
      show (joinRun s.tb.run n).length ≤ 2
      omega
  · exact ⟨h1, h2, by simp, by simp, h5⟩

theorem State.judgeEdge_rate (s : State) (n : Nat) (h : s.RateInv) : (s.judgeEdge n).RateInv := by
  unfold State.judgeEdge
  split
  · exact s.searchEdge_rate n h
  · exact s.searchEdge_rate n h
  · obtain ⟨h1, h2, h3, h4, h5⟩ := h
    split
    · next hc =>
      rw [Bool.and_eq_true] at hc
      have hc := (isCandidate_iff n).1 hc.1
      simp only [State.RateInv, State.acceptEdge, State.setNRef_tb, State.realign_tb]
      exact ⟨hc.1, hc.2, h3, h4, by simp⟩
    · unfold State.rejectEdge
      simp only []
      split
      · exact ⟨h1, h2, by simp, by simp, by simp⟩
      · next hl =>
        simp only [Config.rejectLimit] at hl
        exact ⟨h1, h2, h3, h4, by show s.tb.rejectRun + 1 ≤ 2; omega⟩

theorem State.registerEdge_rate (s : State) (h : s.RateInv) : s.registerEdge.RateInv := by
  unfold State.registerEdge
  split
  · exact h
  · exact State.judgeEdge_rate _ _ h

end Sys2Proof.Machine
end

