-- ==== Sys2Proof/Laws/Steps.lean ====
section
/-! SUPPORT. What a step can do, said once: the three ways it goes on, and what an idle step changes. -/

namespace Sys2Proof.Machine

/-- Every step that answers a next state is a command of the queue, an event of the device's own, or an idle step. -/
theorem step_cases {s t : State} (h : step s = .next t) :
    (∃ c rest, s.pending = c :: rest ∧ exec c { s with pending := rest } = .next t) ∨
    (s.pending = [] ∧ ∃ c, s.nextDue = some c ∧ exec c s = .next t) ∨
    (s.pending = [] ∧ s.nextDue = none ∧ t = s.idle) := by
  unfold step at h
  split at h
  · next c rest hp => exact .inl ⟨c, rest, hp, h⟩
  · next hp =>
    split at h
    · next c hc => exact .inr (.inl ⟨hp, c, hc, h⟩)
    · next hn =>
      injection h with h
      exact .inr (.inr ⟨hp, hn, h.symm⟩)

/-- A property that no queue matters to, that every command keeps and that an idle step keeps, is kept by every step. -/
theorem step_keeps {p : State → Prop} (hq : ∀ s l, p s → p { s with pending := l })
    (hc : ∀ c s t, p s → exec c s = .next t → p t) (hi : ∀ s, p s → p s.idle) {s t : State} (hs : p s)
    (h : step s = .next t) : p t := by
  rcases step_cases h with ⟨c, rest, -, he⟩ | ⟨-, c, -, he⟩ | ⟨-, -, rfl⟩
  · exact hc c _ _ (hq s rest hs) he
  · exact hc c _ _ hs he
  · exact hi s hs

/-! What is due, asked one condition at a time. -/

@[simp] theorem dueIf_eq_none (b : Bool) (c : Instr) : dueIf b c = none ↔ b = false := by cases b <;> simp [dueIf]

@[simp] theorem dueIf_eq_some (b : Bool) (c d : Instr) : dueIf b c = some d ↔ b = true ∧ c = d := by
  cases b <;> simp [dueIf]

@[simp] theorem whenAny_eq_none {α : Type} (l : List α) (c : Instr) : whenAny l c = none ↔ l = [] := by
  cases l <;> simp [whenAny]

@[simp] theorem whenAny_eq_some {α : Type} (l : List α) (c d : Instr) : whenAny l c = some d ↔ l ≠ [] ∧ c = d := by
  cases l <;> simp [whenAny]

@[simp] theorem mem_allChannels (ch : ChannelId) : ch ∈ allChannels := by
  obtain ⟨ln, p⟩ := ch
  revert ln p
  decide

/-- A request is due exactly when one of the queue has not been served. -/
theorem State.requestDue_eq_none (s : State) : s.requestDue = none ↔ ∀ r ∈ s.link.requests, r.served = true := by
  simp [State.requestDue]

/-- The request that is due is the oldest not yet served (R181). -/
theorem State.requestDue_oldest (s : State) (before after : List Request) (r : Request)
    (hs : s.link.requests = before ++ r :: after) (hb : ∀ q ∈ before, q.served = true) (hr : r.served = false) :
    s.requestDue = some (decodeRequest r.kind r.tag r.body) := by
  have h : before.find? (fun q => !q.served) = none := by simpa using hb
  simp [State.requestDue, hs, h, hr]

/-- An idle step either begins a frame or advances T. -/
theorem State.idle_cases (s : State) :
    (s.link.sending = none ∧ s.link.outgoing ≠ [] ∧ s.idle = s.setLink s.link.beginNext) ∨
    s.idle = { s with tb := { s.tb with t := s.tb.t + 1 } } := by
  unfold State.idle
  split
  · next h => exact .inl ⟨by simpa using h.1, h.2, rfl⟩
  · exact .inr rfl

end Sys2Proof.Machine
end

