-- ==== Sys2Proof/Laws/Commands.lean ====
section
/-! SUPPORT. What each group of commands leaves alone. -/

namespace Sys2Proof.Machine

/-! ## Replies -/

/-- Serving passes over the requests that have been served. -/
theorem serveFirst_append (kind tag : Byte) (body : List Byte) (before l : List Request) (h : ∀ q ∈ before, q.served = true) :
    serveFirst kind tag body (before ++ l) =
      (before ++ (serveFirst kind tag body l).1, (serveFirst kind tag body l).2) := by
  induction before with
  | nil => rfl
  | cons q qs ih =>
    have hq : q.served = true := h q (List.mem_cons_self ..)
    have ih := ih fun p hp => h p (List.mem_cons_of_mem _ hp)
    simp only [List.cons_append, serveFirst, hq, if_true, ih]

/-- Serving marks the oldest unserved request when it is the one given, and no other (R181). -/
theorem serveFirst_served (kind tag : Byte) (body : List Byte) (old : List Request) :
    Served old (serveFirst kind tag body old).1 kind tag body := by
  refine ⟨fun before r after ho hb hr => ?_, fun h => ?_⟩
  · rw [ho, serveFirst_append kind tag body before (r :: after) hb]
    show (before ++ (serveFirst kind tag body (r :: after)).1) = _
    simp only [serveFirst, hr, Bool.false_eq_true, if_false]
    split <;> rfl
  · have := serveFirst_append kind tag body old [] h
    simpa [serveFirst] using congrArg Prod.fst this

/-- A reply is the queue's own exactly when serving has changed the queue. -/
theorem serveFirst_hit (kind tag : Byte) (body : List Byte) (old : List Request) :
    (serveFirst kind tag body old).2 = true ↔ (serveFirst kind tag body old).1 ≠ old := by
  induction old with
  | nil => simp [serveFirst]
  | cons r rs ih =>
    by_cases hr : r.served = true
    · simp [serveFirst, hr, ih]
    · by_cases hk : r.kind = kind ∧ r.tag = tag ∧ r.body = body
      · have hne : ({ r with served := true } : Request) :: rs ≠ r :: rs := fun h =>
          hr (congrArg Request.served (List.cons.inj h).1).symm
        simp only [serveFirst, if_neg hr, if_pos hk]
        exact ⟨fun _ => hne, fun _ => trivial⟩
      · simp [serveFirst, hr, hk]

theorem State.answer_replied (s : State) (kind tag : Byte) (body reply : List Byte) :
    Replied s (s.answer kind tag body reply) kind tag reply := by
  refine ⟨?_, body, serveFirst_served kind tag body s.link.requests⟩
  have h := serveFirst_hit kind tag body s.link.requests
  unfold State.answer
  simp only []
  split <;> simp_all

theorem State.answer_only (s : State) (kind tag : Byte) (body reply : List Byte) :
    OnlyReplied s (s.answer kind tag body reply) kind tag reply :=
  ⟨s.answer_replied kind tag body reply, rfl⟩

/-! ## Channel commands -/

/-- Two states that differ at most where the channel units reach: the units, the tallies, the pulse reports and closed vehicles
on their way, and the link's requests and frames. -/
structure ChannelFrame (s t : State) : Prop where
  pending : t.pending = s.pending
  tb : t.tb = s.tb
  temp : t.temp = s.temp
  drift : t.drift = s.drift
  tables : t.tables = s.tables
  store : t.store = s.store
  capture : t.capture = s.capture
  mail : t.mail = { s.mail with reports := t.mail.reports, toUnits := t.mail.toUnits }
  link : t.link = { s.link with requests := t.link.requests, outgoing := t.link.outgoing }
  asm : ∀ ln, t.asm ln = s.asm ln
  matcher : ∀ ln, t.matcher ln = s.matcher ln

theorem ChannelFrame.refl (s : State) : ChannelFrame s s := by constructor <;> intros <;> rfl

theorem ChannelFrame.trans {s t u : State} (h : ChannelFrame s t) (k : ChannelFrame t u) : ChannelFrame s u where
  pending := k.pending.trans h.pending
  tb := k.tb.trans h.tb
  temp := k.temp.trans h.temp
  drift := k.drift.trans h.drift
  tables := k.tables.trans h.tables
  store := k.store.trans h.store
  capture := k.capture.trans h.capture
  mail := by rw [k.mail, h.mail]
  link := by rw [k.link, h.link]
  asm := fun ln => (k.asm ln).trans (h.asm ln)
  matcher := fun ln => (k.matcher ln).trans (h.matcher ln)

theorem State.putUnit_channel (s : State) (ch : ChannelId) (u : ChannelUnit) : ChannelFrame s (s.putUnit ch u) where
  pending := (s.putUnit_frame ch u).pending
  tb := (s.putUnit_frame ch u).tb
  temp := (s.putUnit_frame ch u).temp
  drift := (s.putUnit_frame ch u).drift
  tables := (s.putUnit_frame ch u).tables
  store := (s.putUnit_frame ch u).store
  capture := (s.putUnit_frame ch u).capture
  mail := by rw [(s.putUnit_frame ch u).mail]
  link := by rw [(s.putUnit_frame ch u).link]
  asm := s.putUnit_asm ch u
  matcher := s.putUnit_matcher ch u

theorem State.answer_channel (s : State) (kind tag : Byte) (body reply : List Byte) :
    ChannelFrame s (s.answer kind tag body reply) := by constructor <;> intros <;> rfl

/-- What putting a unit back does to the link (R31, R74): nothing while its service state stays; otherwise the channel is marked,
and the lane too when its reported state changes with it. -/
theorem State.putUnit_link (s : State) (ch : ChannelId) (u : ChannelUnit) :
    (s.putUnit ch u).link = if (s.unit ch).service = u.service then s.link
      else if ((s.setUnit ch u).lanes.get ch.lane).reported = (s.lanes.get ch.lane).reported then
        s.link.raised (channelChange ch)
      else (s.link.raised (channelChange ch)).raised (laneChange ch.lane) := by
  unfold State.putUnit State.raiseReported
  split
  · simp
  · split <;> simp_all [State.raiseChannel, State.raise, State.raiseLane, Link.raised, channelChange, laneChange]

/-- Raising a notice adds no reply to the frames that wait. -/
theorem raiseIn_holdsPlace (fs : List OutFrame) (n : Notice) :
    (raiseIn fs n).countP OutFrame.holdsPlace = fs.countP OutFrame.holdsPlace := by
  induction fs with
  | nil => simp [raiseIn, OutFrame.holdsPlace]
  | cons f fs ih =>
    cases f with
    | reply r => simp [raiseIn, List.countP_cons, ih]
    | notice m =>
      simp only [raiseIn]
      split <;> simp [ih, OutFrame.holdsPlace]

theorem State.sampleEvent_channel (s : State) (ch : ChannelId) (e : SampleEvent) :
    ChannelFrame s (s.sampleEvent ch e) := by
  unfold State.sampleEvent
  split
  · exact ChannelFrame.refl s
  · constructor <;> intros <;> rfl
  · unfold State.sendReport
    split <;> constructor <;> intros <;> rfl

theorem State.takeOverlong_channel (s : State) (ch : ChannelId) : ChannelFrame s (s.takeOverlong ch) := by
  unfold State.takeOverlong
  simp only []
  split
  · constructor <;> intros <;> first | rfl | simp [State.asm, State.matcher]
    all_goals
      simp only [State.setUnit, State.setLane_lanes, Four.get_set]
      split <;> simp_all
  · exact s.putUnit_channel ch _

theorem State.takeSample_channel (s : State) (ch : ChannelId) (x : Code) : ChannelFrame s (s.takeSample ch x) := by
  unfold State.takeSample
  simp only []
  split
  · exact ChannelFrame.refl s
  · split
    · exact (s.sampleEvent_channel ch _).trans (State.putUnit_channel _ _ _)
    · exact ChannelFrame.refl s

theorem State.supervise_channel (s : State) (v : Supervision) : ChannelFrame s (s.supervise v) := by
  unfold State.supervise
  split
  · exact (((s.putUnit_channel _ _).trans (State.putUnit_channel _ _ _)).trans (State.putUnit_channel _ _ _)).trans
      (State.putUnit_channel _ _ _)
  · exact ChannelFrame.refl s

theorem execChannelSample_channel {ch : ChannelId} {x : Code} {s t : State}
    (h : execChannelSample ch x s = .next t) : ChannelFrame s t := by
  injection h with h
  subst h
  split
  · exact (s.takeOverlong_channel ch).trans (State.takeSample_channel _ _ _)
  · exact s.takeSample_channel ch x

theorem execPulseOverlong_channel {ch : ChannelId} {s t : State} (h : execPulseOverlong ch s = .next t) :
    ChannelFrame s t := by
  injection h with h
  subst h
  split
  · exact s.takeOverlong_channel ch
  · exact ChannelFrame.refl s

theorem execChannelSettingsWaiting_channel {ch : ChannelId} {s t : State}
    (h : execChannelSettingsWaiting ch s = .next t) : ChannelFrame s t := by
  injection h with h
  subst h
  split
  · exact s.putUnit_channel ch _
  · exact ChannelFrame.refl s

theorem execChannelSupervision_channel {s t : State} (h : execChannelSupervision s = .next t) : ChannelFrame s t := by
  injection h with h
  subst h
  split
  · exact ChannelFrame.refl s
  · refine ChannelFrame.trans ?_ (State.supervise_channel _ _)
    constructor <;> intros <;> rfl

theorem execChannelRestore_channel {tag : Byte} {body : List Byte} {s t : State}
    (h : execChannelRestore tag body s = .next t) : ChannelFrame s t := by
  injection h with h
  subst h
  split
  · exact s.answer_channel _ _ _ _
  · split
    · exact s.answer_channel _ _ _ _
    · split
      · exact (s.putUnit_channel _ _).trans (State.answer_channel _ _ _ _ _)
      · exact s.answer_channel _ _ _ _

/-! ## Traffic commands -/

/-- The frame of the traffic commands, which also take reports from their way. -/
structure MatchFrame (s t : State) : Prop where
  pending : t.pending = s.pending
  tb : t.tb = s.tb
  temp : t.temp = s.temp
  drift : t.drift = s.drift
  tally : t.tally = s.tally
  tables : t.tables = { s.tables with retiring := t.tables.retiring }
  store : t.store = { s.store with serial := t.store.serial }
  link : t.link = { s.link with outgoing := t.link.outgoing }
  mail : t.mail = { s.mail with
    reports := t.mail.reports, toStore := t.mail.toStore, toTally := t.mail.toTally, toDrift := t.mail.toDrift,
    toCapture := t.mail.toCapture, toUnits := t.mail.toUnits }
  units : ∀ ch, t.unit ch = s.unit ch

theorem TrafficFrame.matching {s t : State} (h : TrafficFrame s t) : MatchFrame s t where
  pending := h.pending
  tb := h.tb
  temp := h.temp
  drift := h.drift
  tally := h.tally
  tables := h.tables
  store := h.store
  link := h.link
  mail := by rw [h.mail]
  units := h.units

theorem execPulseReport_frame {s t : State} (h : execPulseReport s = .next t) : MatchFrame s t := by
  injection h with h
  subst h
  split
  · exact (TrafficFrame.refl s).matching
  · next r rest _ =>
    have k : TrafficFrame { s with mail := { s.mail with reports := rest } }
        (State.takeReport { s with mail := { s.mail with reports := rest } } r) := by
      unfold State.takeReport
      split
      · exact (State.matchPulse_frame _ _ _).trans (State.settle_frame _)
      · exact TrafficFrame.refl _
    constructor
    · exact k.pending
    · exact k.tb
    · exact k.temp
    · exact k.drift
    · exact k.tally
    · exact k.tables
    · exact k.store
    · exact k.link
    · rw [k.mail]
    · exact k.units

theorem execHoldExpiry_frame {ch : ChannelId} {s t : State} (h : execHoldExpiry ch s = .next t) : TrafficFrame s t := by
  injection h with h
  subst h
  split
  · exact TrafficFrame.refl s
  · exact ((s.setHalfList_frame _ _ _).trans (State.resolve_frame _ _ _ _)).trans (State.settle_frame _)

theorem execPendingExpiry_frame {ln : LaneId} {s t : State} (h : execPendingExpiry ln s = .next t) :
    TrafficFrame s t := by
  injection h with h
  subst h
  split
  · exact TrafficFrame.refl s
  · exact ((s.setMatcher_frame _ _).trans (State.deliver_frame _ _ _)).trans (State.settle_frame _)

theorem execDeliveryMarkLapse_frame {ln : LaneId} {s t : State} (h : execDeliveryMarkLapse ln s = .next t) :
    TrafficFrame s t := by
  injection h with h
  subst h
  split
  · exact s.setMatcher_frame _ _
  · exact TrafficFrame.refl s

theorem execPresenceSample_frame {ln : LaneId} {level : Bool} {s t : State}
    (h : execPresenceSample ln level s = .next t) : TrafficFrame s t := by
  injection h with h
  subst h
  exact s.setAsm_frame _ _

theorem execGapWithLoop_frame {ln : LaneId} {s t : State} (h : execGapWithLoop ln s = .next t) : TrafficFrame s t := by
  injection h with h
  subst h
  split
  · exact TrafficFrame.refl s
  · exact (s.close_frame _ _ _ _).trans (State.settle_frame _)

theorem execGapWithoutLoop_frame {ln : LaneId} {s t : State} (h : execGapWithoutLoop ln s = .next t) :
    TrafficFrame s t := by
  injection h with h
  subst h
  split
  · exact TrafficFrame.refl s
  · exact (s.close_frame _ _ _ _).trans (State.settle_frame _)

theorem execTimeout_frame {ln : LaneId} {s t : State} (h : execTimeout ln s = .next t) : TrafficFrame s t := by
  injection h with h
  subst h
  split
  · exact TrafficFrame.refl s
  · exact (s.close_frame _ _ _ _).trans (State.settle_frame _)

/-! ## Timebase commands -/

theorem execRefEdge_clock {level : Bool} {s t : State} (h : execRefEdge level s = .next t) : ClockFrame s t := by
  injection h with h
  subst h
  split
  · exact (ClockFrame.ofTb s _).trans (State.registerEdge_clock _)
  · exact ClockFrame.ofTb s _

theorem execTimebaseSilence_clock {s t : State} (h : execTimebaseSilence s = .next t) : ClockFrame s t := by
  injection h with h
  subst h
  split
  · exact s.enterLock_clock _
  · exact ClockFrame.refl s

theorem execFreeRunningBoundary_clock {s t : State} (h : execFreeRunningBoundary s = .next t) : ClockFrame s t := by
  injection h with h
  subst h
  split
  · exact (ClockFrame.ofTb s _).trans (State.secondBoundary_clock _)
  · exact ClockFrame.refl s

/-! ## Temperature commands -/

/-- Two states that differ at most where the Temperature Unit reaches: the unit, the tallies, its own offers and the link's
requests and frames. -/
structure TempFrame (s t : State) : Prop where
  pending : t.pending = s.pending
  tb : t.tb = s.tb
  lanes : t.lanes = s.lanes
  drift : t.drift = s.drift
  tables : t.tables = s.tables
  store : t.store = s.store
  capture : t.capture = s.capture
  mail : t.mail = { s.mail with tempOffers := t.mail.tempOffers }
  link : t.link = { s.link with requests := t.link.requests, outgoing := t.link.outgoing }

theorem TempFrame.refl (s : State) : TempFrame s s := by constructor <;> rfl

theorem TempFrame.trans {s t u : State} (h : TempFrame s t) (k : TempFrame t u) : TempFrame s u where
  pending := k.pending.trans h.pending
  tb := k.tb.trans h.tb
  lanes := k.lanes.trans h.lanes
  drift := k.drift.trans h.drift
  tables := k.tables.trans h.tables
  store := k.store.trans h.store
  capture := k.capture.trans h.capture
  mail := by rw [k.mail, h.mail]
  link := by rw [k.link, h.link]

theorem State.putProbe_frame (s : State) (p : ProbeId) (x : Probe) : TempFrame s (s.putProbe p x) := by
  unfold State.putProbe
  simp only []
  split <;> constructor <;> rfl

theorem State.reselect_frame (s : State) : TempFrame s s.reselect := by
  unfold State.reselect
  simp only []
  split <;> constructor <;> rfl

theorem State.startGate_frame (s : State) (p : Option ProbeId) : TempFrame s (s.startGate p) := by constructor <;> rfl

theorem State.gateAfterTake_frame (s : State) : TempFrame s s.gateAfterTake := by
  unfold State.gateAfterTake
  split
  · exact s.startGate_frame _
  · split
    · exact s.startGate_frame _
    · exact TempFrame.refl s

theorem execGateEnd_frame {s t : State} (h : execGateEnd s = .next t) : TempFrame s t := by
  injection h with h
  subst h
  split
  · exact TempFrame.refl s
  · exact ((s.putProbe_frame _ _).trans (State.reselect_frame _)).trans (State.startGate_frame _ _)

theorem execProbeEdge_frame {p : ProbeId} {s t : State} (h : execProbeEdge p s = .next t) : TempFrame s t := by
  injection h with h
  subst h
  constructor <;> rfl

theorem TempFrame.foldl {α : Type} {f : State → α → State} (hf : ∀ s a, TempFrame s (f s a)) (l : List α) (s : State) :
    TempFrame s (l.foldl f s) := by
  induction l generalizing s with
  | nil => exact TempFrame.refl s
  | cons a l ih => exact (hf s a).trans (ih (f s a))

theorem State.takeProbeSettings_frame (s : State) (set : TableSet) : TempFrame s (s.takeProbeSettings set) := by
  unfold State.takeProbeSettings
  refine TempFrame.trans ?_ ((State.reselect_frame _).trans (State.gateAfterTake_frame _))
  refine TempFrame.trans ?_ (TempFrame.foldl (fun s p => s.putProbe_frame p _) fours _)
  constructor <;> rfl

theorem execProbeSettingsTake_frame {s t : State} (h : execProbeSettingsTake s = .next t) : TempFrame s t := by
  injection h with h
  subst h
  split
  · exact TempFrame.refl s
  · refine TempFrame.trans ?_ (State.takeProbeSettings_frame _ _)
    constructor <;> rfl

theorem execProbeRestore_frame {tag : Byte} {body : List Byte} {s t : State}
    (h : execProbeRestore tag body s = .next t) : TempFrame s t := by
  have ha : ∀ (s : State) (k tg : Byte) (b r : List Byte), TempFrame s (s.answer k tg b r) := by
    intros; constructor <;> rfl
  injection h with h
  subst h
  split
  · exact ha _ _ _ _ _
  · split
    · exact ha _ _ _ _ _
    · split
      · exact ((s.putProbe_frame _ _).trans (State.reselect_frame _)).trans (ha _ _ _ _ _)
      · exact ha _ _ _ _ _

/-! ## Records, tallies, drift, capture, tables and link -/

theorem execTimeSet_frame {tag : Byte} {body : List Byte} {s t : State} (h : execTimeSet tag body s = .next t) :
    t = { s with tb := t.tb, link := t.link } := by
  injection h with h
  subst h
  repeat' (first | rfl | split)

theorem State.readyTest_frame (s : State) : s.readyTest = { s with store := s.readyTest.store, link := s.readyTest.link } := by
  unfold State.readyTest
  split <;> rfl

theorem State.storeRecord_frame (s : State) (r : VehicleRecord) :
    s.storeRecord r = { s with
      store := (s.storeRecord r).store, link := (s.storeRecord r).link, mail := (s.storeRecord r).mail } := by
  unfold State.storeRecord
  split
  · unfold State.joinRecord
    rw [State.readyTest_frame]
  · rfl

theorem State.takeSite_frame (s : State) (site : SiteItem) :
    s.takeSite site = { s with
      tally := { s.tally with interval := site.interval }, store := (s.takeSite site).store,
      link := (s.takeSite site).link } := by
  unfold State.takeSite
  simp only []
  split
  · rw [State.readyTest_frame]
  · rfl

theorem State.feed_frame (s : State) (ln : LaneId) (b : Band) (a1 : Nat) :
    s.feed ln b a1 = { s with drift := (s.feed ln b a1).drift, link := (s.feed ln b a1).link } := by
  unfold State.feed
  simp only []
  split
  · rfl
  · split <;> rfl

theorem State.setCaptured_frame (s : State) (serial : Option Nat) :
    s.setCaptured serial = { s with store := (s.setCaptured serial).store, mail := (s.setCaptured serial).mail } := by
  unfold State.setCaptured
  split <;> rfl

theorem State.closeTest_frame (s : State) (r : VehicleRecord) :
    s.closeTest r = { s with
      store := (s.closeTest r).store, capture := (s.closeTest r).capture, link := (s.closeTest r).link,
      mail := (s.closeTest r).mail } := by
  unfold State.closeTest
  split
  · split
    · rw [State.raise]
      rw [State.setCaptured_frame]
    · rfl
  · rfl

theorem State.takeWaiting_frame (s : State) (d : CaptureDelivery) :
    s.takeWaiting d = { s with capture := (s.takeWaiting d).capture } := by
  unfold State.takeWaiting State.takeLaneOut State.takeOpen
  dsimp only
  repeat' (first | rfl | split)

theorem execRecordStoreDelivery_frame {s t : State} (h : execRecordStoreDelivery s = .next t) :
    t = { s with store := t.store, link := t.link, mail := t.mail } := by
  injection h with h
  subst h
  split
  · rfl
  · rw [State.storeRecord_frame]

theorem execSiteSettingsTake_frame {s t : State} (h : execSiteSettingsTake s = .next t) :
    t = { s with tally := t.tally, store := t.store, link := t.link, mail := t.mail } := by
  injection h with h
  subst h
  split
  · rfl
  · rw [State.takeSite_frame]

theorem execTallyRecord_frame {s t : State} (h : execTallyRecord s = .next t) :
    t = { s with tally := t.tally, mail := t.mail } := by
  injection h with h
  subst h
  repeat' (first | rfl | split)

theorem execTallyDrop_frame {s t : State} (h : execTallyDrop s = .next t) :
    t = { s with tally := t.tally, mail := t.mail } := by
  injection h with h
  subst h
  repeat' (first | rfl | split)

theorem execDriftFeed_frame {s t : State} (h : execDriftFeed s = .next t) :
    t = { s with drift := t.drift, link := t.link, mail := t.mail } := by
  injection h with h
  subst h
  split
  · rfl
  · simp only []
    split
    · rw [State.feed_frame]
    · rfl

theorem execDriftPolicyTake_frame {s t : State} (h : execDriftPolicyTake s = .next t) :
    t = { s with drift := t.drift, mail := t.mail } := by
  injection h with h
  subst h
  repeat' (first | rfl | split)

theorem execCaptureCloseTest_frame {s t : State} (h : execCaptureCloseTest s = .next t) :
    t = { s with store := t.store, capture := t.capture, link := t.link, mail := t.mail } := by
  injection h with h
  subst h
  split
  · rfl
  · rw [State.takeWaiting_frame, State.closeTest_frame]

theorem execCaptureWrite_frame {s t : State} (h : execCaptureWrite s = .next t) :
    t = { s with capture := t.capture } := by
  injection h with h
  subst h
  repeat' (first | rfl | split)

theorem execInboundByte_frame {byte : Byte} {fault : Bool} {s t : State} (h : execInboundByte byte fault s = .next t) :
    t = { s with link := t.link } := by
  injection h with h
  subst h
  rfl

theorem execFrameGapExpiry_frame {s t : State} (h : execFrameGapExpiry s = .next t) :
    t = { s with link := t.link } := by
  injection h with h
  subst h
  repeat' (first | rfl | split)

theorem execTransmitEnd_frame {s t : State} (h : execTransmitEnd s = .next t) :
    t = { s with link := t.link } := by
  injection h with h
  subst h
  simp only []
  split <;> rfl

theorem execUnknownRequest_frame {kind tag : Byte} {body : List Byte} {s t : State} (h : execUnknownRequest kind tag body s = .next t) :
    t = { s with link := t.link } := by
  injection h with h
  subst h
  repeat' (first | rfl | split)

theorem execStatus_frame {tag : Byte} {body : List Byte} {s t : State} (h : execStatus tag body s = .next t) :
    t = { s with tb := t.tb, store := t.store, link := t.link } := by
  injection h with h
  subst h
  repeat' (first | rfl | split)

theorem execLiveRead_frame {tag : Byte} {body : List Byte} {s t : State} (h : execLiveRead tag body s = .next t) :
    t = { s with link := t.link } := by
  injection h with h
  subst h
  rfl

theorem execStageOpen_frame {tag : Byte} {body : List Byte} {s t : State} (h : execStageOpen tag body s = .next t) :
    t = { s with tables := t.tables, link := t.link } := by
  injection h with h
  subst h
  repeat' (first | rfl | split)

theorem execStagePut_frame {tag : Byte} {body : List Byte} {s t : State} (h : execStagePut tag body s = .next t) :
    t = { s with tables := t.tables, link := t.link } := by
  injection h with h
  subst h
  repeat' (first | rfl | split)

theorem execStageDiscard_frame {tag : Byte} {body : List Byte} {s t : State} (h : execStageDiscard tag body s = .next t) :
    t = { s with tables := t.tables, link := t.link } := by
  injection h with h
  subst h
  repeat' (first | rfl | split)

theorem execTableRead_frame {tag : Byte} {body : List Byte} {s t : State} (h : execTableRead tag body s = .next t) :
    t = { s with link := t.link } := by
  injection h with h
  subst h
  rfl

theorem execDriftGet_frame {tag : Byte} {body : List Byte} {s t : State} (h : execDriftGet tag body s = .next t) :
    t = { s with link := t.link } := by
  injection h with h
  subst h
  rfl

theorem execDriftSet_frame {tag : Byte} {body : List Byte} {s t : State} (h : execDriftSet tag body s = .next t) :
    t = { s with drift := t.drift, link := t.link } := by
  injection h with h
  subst h
  split
  · rfl
  · split
    · simp only []
      split <;> rfl
    · rfl

theorem execDriftFreeze_frame {tag : Byte} {body : List Byte} {s t : State} (h : execDriftFreeze tag body s = .next t) :
    t = { s with drift := t.drift, link := t.link } := by
  injection h with h
  subst h
  repeat' (first | rfl | split)

theorem execRecordFetch_frame {tag : Byte} {body : List Byte} {s t : State} (h : execRecordFetch tag body s = .next t) :
    t = { s with link := t.link } := by
  injection h with h
  subst h
  rfl

theorem execRecordRelease_frame {tag : Byte} {body : List Byte} {s t : State} (h : execRecordRelease tag body s = .next t) :
    t = { s with store := t.store, link := t.link } := by
  injection h with h
  subst h
  split
  · rfl
  · simp only []
    split <;> rfl

theorem execTallyFetch_frame {tag : Byte} {body : List Byte} {s t : State} (h : execTallyFetch tag body s = .next t) :
    t = { s with link := t.link } := by
  injection h with h
  subst h
  rfl

theorem execTallyRelease_frame {tag : Byte} {body : List Byte} {s t : State} (h : execTallyRelease tag body s = .next t) :
    t = { s with tally := t.tally, link := t.link } := by
  injection h with h
  subst h
  repeat' (first | rfl | split)

theorem execCaptureArm_frame {tag : Byte} {body : List Byte} {s t : State} (h : execCaptureArm tag body s = .next t) :
    t = { s with
      capture := t.capture, link := t.link, mail := { s.mail with toCapture := t.mail.toCapture } } := by
  injection h with h
  subst h
  split
  · rfl
  · split
    · rfl
    · split
      · simp only []
        split <;> rfl
      · rfl

theorem execCaptureFetch_frame {tag : Byte} {body : List Byte} {s t : State} (h : execCaptureFetch tag body s = .next t) :
    t = { s with link := t.link } := by
  injection h with h
  subst h
  rfl

theorem execCaptureRelease_frame {tag : Byte} {body : List Byte} {s t : State} (h : execCaptureRelease tag body s = .next t) :
    t = { s with capture := t.capture, link := t.link } := by
  injection h with h
  subst h
  repeat' (first | rfl | split)

/-! ## Restart and commit -/

theorem State.restartUnits_frame (s : State) : UnitFrame s s.restartUnits := by
  unfold State.restartUnits
  generalize allChannels = l
  induction l generalizing s with
  | nil => exact UnitFrame.refl s
  | cons a l ih => exact (s.putUnit_frame a _).trans (ih _)

theorem State.adopts_frame (l : List LaneId) (s : State) : TrafficFrame s (l.foldl State.adopt s) := by
  induction l generalizing s with
  | nil => exact TrafficFrame.refl s
  | cons a l ih => exact (s.adopt_frame a).trans (ih _)

/-- What a restart leaves alone of every block it does not reach, and of the link (R184). -/
structure RestartFrame (s t : State) : Prop where
  pending : t.pending = s.pending
  tb : t.tb = s.tb
  temp : t.temp = { s.temp with gate := t.temp.gate }
  drift : t.drift = s.drift
  tables : t.tables = { s.tables with staging := none, retiring := t.tables.retiring }
  store : t.store = s.store
  tally : t.tally = { s.tally with
    active := Four.fill (Tally.opened s.temp.tw), openedAt := s.tb.seconds, extension := 0 }
  link : t.link = { s.link with outgoing := t.link.outgoing }
  mail : t.mail = { s.mail with
    reports := [], toCapture := s.mail.toCapture.map CaptureDelivery.alone }

theorem State.restartGate_frame (s : State) :
    s.restartGate = { s with temp := { s.temp with gate := s.restartGate.temp.gate } } := by
  unfold State.restartGate
  split <;> rfl

/-- With the Capture Unit neither ARMED nor RECORDING an adoption leaves the store, the capture and what is on its way alone. -/
theorem State.adopt_store (s : State) (ln : LaneId) (hw : s.capture.writing = false) :
    (s.adopt ln).store = s.store ∧ (s.adopt ln).mail = s.mail ∧ (s.adopt ln).capture = s.capture := by
  have hr : ∀ (s : State) (r : Reported), (s.raiseReported r ln).store = s.store ∧
      (s.raiseReported r ln).mail = s.mail ∧ (s.raiseReported r ln).capture = s.capture := by
    intro s r
    exact ⟨(s.raiseReported_frame r ln).store, (s.raiseReported_frame r ln).mail, (s.raiseReported_frame r ln).capture⟩
  have hf : ∀ s : State, s.freeRetiring.store = s.store ∧ s.freeRetiring.mail = s.mail ∧
      s.freeRetiring.capture = s.capture := by
    intro s
    unfold State.freeRetiring
    split
    · exact ⟨rfl, rfl, rfl⟩
    · split <;> exact ⟨rfl, rfl, rfl⟩
  have hc : ∀ s : State, s.capture.writing = false → s.captureLaneOut ln = s := by
    intro s h
    simp [State.captureLaneOut, State.takeLaneOut, h]
  unfold State.adopt
  split
  · exact ⟨rfl, rfl, rfl⟩
  · simp only []
    rw [(hr _ _).1, (hr _ _).2.1, (hr _ _).2.2, (hf _).1, (hf _).2.1, (hf _).2.2]
    split
    · rw [hc (s.setLane ln _) hw]; exact ⟨rfl, rfl, rfl⟩
    · exact ⟨rfl, rfl, rfl⟩

theorem State.adopts_store (l : List LaneId) (s : State) (hw : s.capture.writing = false) :
    (l.foldl State.adopt s).store = s.store ∧ (l.foldl State.adopt s).mail = s.mail := by
  induction l generalizing s with
  | nil => exact ⟨rfl, rfl⟩
  | cons a l ih =>
    obtain ⟨h1, h2, h3⟩ := s.adopt_store a hw
    have ih := ih (s.adopt a) (by rw [h3]; exact hw)
    exact ⟨ih.1.trans h1, ih.2.trans h2⟩

theorem State.freeRetiring_store (s : State) :
    s.freeRetiring = { s with tables := { s.tables with retiring := s.freeRetiring.tables.retiring } } := by
  unfold State.freeRetiring
  split
  · rfl
  · split <;> rfl

theorem State.restartBlocks_frame (s : State) : RestartFrame s s.restartBlocks := by
  have hu := s.restartUnits_frame
  generalize hs : s.restartUnits = u at hu
  have hb : s.restartBlocks = (fours.foldl State.adopt
      { (u.discardTraffic.restartGate.setStaging none) with capture := CaptureUnit.start }).freeRetiring.reopenTallies := by
    unfold State.restartBlocks
    rw [hs]
  generalize he : ({ (u.discardTraffic.restartGate.setStaging none) with capture := CaptureUnit.start } : State) = e at hb
  have hg := State.restartGate_frame u.discardTraffic
  have ha := State.adopts_frame fours e
  have hm := State.adopts_store fours e (by rw [← he]; rfl)
  generalize hv : fours.foldl State.adopt e = v at ha hm hb
  have hf := State.freeRetiring_store v
  rw [hb]
  have ep : e.pending = s.pending := by rw [← he, ← hu.pending]; simp only [State.setStaging_pending]; rw [hg]; rfl
  have et : e.tb = s.tb := by rw [← he, ← hu.tb]; simp only [State.setStaging_tb]; rw [hg]; rfl
  have etemp : e.temp = { s.temp with gate := e.temp.gate } := by
    rw [← he, ← hu.temp]; simp only [State.setStaging_temp]; rw [hg]; rfl
  have ed : e.drift = s.drift := by rw [← he, ← hu.drift]; simp only [State.setStaging_drift]; rw [hg]; rfl
  have etab : e.tables = { s.tables with staging := none } := by
    rw [← he, ← hu.tables]; simp only [State.setStaging_tables]; rw [hg]; rfl
  have est : e.store = s.store := by rw [← he, ← hu.store]; simp only [State.setStaging_store]; rw [hg]; rfl
  have etal : e.tally = s.tally := by rw [← he, ← hu.tally]; simp only [State.setStaging_tally]; rw [hg]; rfl
  have el : e.link = { s.link with outgoing := e.link.outgoing } := by
    have : e.link = u.link := by rw [← he]; simp only [State.setStaging_link]; rw [hg]; rfl
    rw [this]; exact hu.link
  have em : e.mail = { s.mail with
      reports := [], toCapture := s.mail.toCapture.map CaptureDelivery.alone } := by
    rw [← he, ← hu.mail]; simp only [State.setStaging_mail]; rw [hg]; rfl
  have hfr : v.freeRetiring.temp = v.temp ∧ v.freeRetiring.tb = v.tb := by rw [hf]; exact ⟨rfl, rfl⟩
  constructor
  · rw [State.reopenTallies_pending, hf, ← ep]; exact ha.pending
  · rw [State.reopenTallies_tb, hfr.2, ← et]; exact ha.tb
  · rw [State.reopenTallies_temp, hfr.1, ha.temp]; exact etemp
  · rw [State.reopenTallies_drift, hf, ← ed]; exact ha.drift
  · rw [State.reopenTallies_tables, hf, ha.tables, etab]
  · rw [State.reopenTallies_store, hf, ← est]; exact hm.1
  · rw [State.reopenTallies_tally, hfr.1, hfr.2]
    have h1 : v.freeRetiring.tally = s.tally := by rw [hf, ← etal]; exact ha.tally
    rw [h1, ha.temp, ha.tb, et, etemp]
  · rw [State.reopenTallies_link, hf, ha.link, el]
  · rw [State.reopenTallies_mail, hf, ← em]; exact hm.2

/-- What a successful commit leaves alone. -/
theorem State.commit_frame (s : State) (set : TableSet) (reset : Bool) : TrafficFrame (s.promote set reset) (s.commit set reset) :=
  (State.settle_frame _).trans (State.freeRetiring_frame _)

/-- The two things RESTART can do. -/
theorem execRestart_cases {tag : Byte} {body : List Byte} {s t : State} (h : execRestart tag body s = .next t) :
    (body.length ≠ 0 ∧ t = s.answer 0x04 tag body [codeBadLength]) ∨
    (body.length = 0 ∧ t = (s.restartBlocks.answer 0x04 tag body [codeOk]).raise (.started false true)) := by
  have h := Host.Outcome.next.inj h
  by_cases hb : body.length = 0
  · rw [if_neg (by simpa using hb)] at h
    exact .inr ⟨hb, h.symm⟩
  · rw [if_pos hb] at h
    exact .inl ⟨hb, h.symm⟩

/-- The two things STAGE_COMMIT can do: a refusal that changes nothing, or a commit of the staged set. -/
theorem execStageCommit_cases {tag : Byte} {body : List Byte} {s t : State} (h : execStageCommit tag body s = .next t) :
    (∃ reply, t = s.answer 0x13 tag body reply) ∨
    (∃ x reset reply, s.tables.staging = some x ∧ s.tables.retiring = none ∧ x.set.firstFailure = none ∧
      commitFlags body = some reset ∧ t = (s.commit x.set reset).answer 0x13 tag body reply) := by
  have h := Host.Outcome.next.inj h
  split at h
  · exact .inl ⟨_, h.symm⟩
  · split at h
    · exact .inl ⟨_, h.symm⟩
    · exact .inl ⟨_, h.symm⟩
    · next reset x hr hx =>
      split at h
      · exact .inl ⟨_, h.symm⟩
      · next hret =>
        split at h
        · exact .inl ⟨_, h.symm⟩
        · next hf => exact .inr ⟨x, reset, _, hx, by simpa using hret, hf, hr, h.symm⟩

/-! ## All commands at once -/

/-- The commands that can reach the timebase; every other leaves it as it was. -/
theorem exec_tb (c : Instr) (s t : State) (h : exec c s = .next t) :
   t.tb = s.tb ∨ (∃ r1 r0, c = .powerOn r1 r0) ∨ (∃ l, c = .refEdge l) ∨ c = .timebaseSilence ∨ c = .freeRunningBoundary ∨ (∃ a b, c = .timeSet a b) ∨ (∃ a b, c = .status a b) := by
  cases c
  case powerOn r1 r0 => exact .inr (.inl ⟨r1, r0, rfl⟩)
  case refEdge l => exact .inr (.inr (.inl ⟨l, rfl⟩))
  case timebaseSilence => simp
  case freeRunningBoundary => simp
  case timeSet => simp
  case status => simp
  all_goals left
  case channelSample => exact (execChannelSample_channel h).tb
  case pulseOverlong => exact (execPulseOverlong_channel h).tb
  case channelSettingsWaiting => exact (execChannelSettingsWaiting_channel h).tb
  case channelSupervision => exact (execChannelSupervision_channel h).tb
  case channelRestore => exact (execChannelRestore_channel h).tb
  case pulseReport => exact (execPulseReport_frame h).tb
  case holdExpiry => exact (execHoldExpiry_frame h).tb
  case pendingExpiry => exact (execPendingExpiry_frame h).tb
  case deliveryMarkLapse => exact (execDeliveryMarkLapse_frame h).tb
  case presenceSample => exact (execPresenceSample_frame h).tb
  case gapWithLoop => exact (execGapWithLoop_frame h).tb
  case gapWithoutLoop => exact (execGapWithoutLoop_frame h).tb
  case timeout => exact (execTimeout_frame h).tb
  case gateEnd => exact (execGateEnd_frame h).tb
  case probeEdge => exact (execProbeEdge_frame h).tb
  case probeSettingsTake => exact (execProbeSettingsTake_frame h).tb
  case probeRestore => exact (execProbeRestore_frame h).tb
  case restart tag body =>
    rcases execRestart_cases h with ⟨-, rfl⟩ | ⟨-, rfl⟩
    · rfl
    · rw [State.raise_tb, State.answer_tb]; exact (State.restartBlocks_frame s).tb
  case stageCommit =>
    rcases execStageCommit_cases h with ⟨r, rfl⟩ | ⟨x, rs, r, -, -, -, -, rfl⟩
    · rfl
    · rw [State.answer_tb]; exact (State.commit_frame _ _ _).tb
  case recordStoreDelivery => rw [execRecordStoreDelivery_frame h]
  case tallyRecord => rw [execTallyRecord_frame h]
  case tallyDrop => rw [execTallyDrop_frame h]
  case driftFeed => rw [execDriftFeed_frame h]
  case captureCloseTest => rw [execCaptureCloseTest_frame h]
  case captureWrite => rw [execCaptureWrite_frame h]
  case driftPolicyTake => rw [execDriftPolicyTake_frame h]
  case siteSettingsTake => rw [execSiteSettingsTake_frame h]
  case inboundByte => rw [execInboundByte_frame h]
  case frameGapExpiry => rw [execFrameGapExpiry_frame h]
  case transmitEnd => rw [execTransmitEnd_frame h]
  case unknownRequest => rw [execUnknownRequest_frame h]
  case liveRead => rw [execLiveRead_frame h]
  case stageOpen => rw [execStageOpen_frame h]
  case stagePut => rw [execStagePut_frame h]
  case stageDiscard => rw [execStageDiscard_frame h]
  case tableRead => rw [execTableRead_frame h]
  case driftGet => rw [execDriftGet_frame h]
  case driftSet => rw [execDriftSet_frame h]
  case driftFreeze => rw [execDriftFreeze_frame h]
  case recordFetch => rw [execRecordFetch_frame h]
  case recordRelease => rw [execRecordRelease_frame h]
  case tallyFetch => rw [execTallyFetch_frame h]
  case tallyRelease => rw [execTallyRelease_frame h]
  case captureArm => rw [execCaptureArm_frame h]
  case captureFetch => rw [execCaptureFetch_frame h]
  case captureRelease => rw [execCaptureRelease_frame h]

/-- The commands that can reach the drift tracker; every other leaves it as it was. -/
theorem exec_drift (c : Instr) (s t : State) (h : exec c s = .next t) :
    (t.drift = s.drift) ∨
    (∃ r1 r0, c = .powerOn r1 r0) ∨
    c = .driftFeed ∨
    c = .driftPolicyTake ∨
    (∃ tg bd, c = .driftSet tg bd) ∨
    (∃ tg bd, c = .driftFreeze tg bd) := by
  cases c
  case powerOn r1 r0 => exact .inr (.inl ⟨r1, r0, rfl⟩)
  case driftFeed => exact .inr (.inr (.inl rfl))
  case driftPolicyTake => exact .inr (.inr (.inr (.inl rfl)))
  case driftSet tg bd => exact .inr (.inr (.inr (.inr (.inl ⟨tg, bd, rfl⟩))))
  case driftFreeze tg bd => exact .inr (.inr (.inr (.inr (.inr (⟨tg, bd, rfl⟩)))))
  all_goals left
  case channelSample => exact (execChannelSample_channel h).drift
  case pulseOverlong => exact (execPulseOverlong_channel h).drift
  case channelSettingsWaiting => exact (execChannelSettingsWaiting_channel h).drift
  case channelSupervision => exact (execChannelSupervision_channel h).drift
  case refEdge => exact (execRefEdge_clock h).drift
  case timebaseSilence => exact (execTimebaseSilence_clock h).drift
  case freeRunningBoundary => exact (execFreeRunningBoundary_clock h).drift
  case pulseReport => exact (execPulseReport_frame h).drift
  case holdExpiry => exact (execHoldExpiry_frame h).drift
  case pendingExpiry => exact (execPendingExpiry_frame h).drift
  case deliveryMarkLapse => exact (execDeliveryMarkLapse_frame h).drift
  case presenceSample => exact (execPresenceSample_frame h).drift
  case gapWithLoop => exact (execGapWithLoop_frame h).drift
  case gapWithoutLoop => exact (execGapWithoutLoop_frame h).drift
  case timeout => exact (execTimeout_frame h).drift
  case recordStoreDelivery => rw [(execRecordStoreDelivery_frame h)]
  case tallyRecord => rw [(execTallyRecord_frame h)]
  case tallyDrop => rw [(execTallyDrop_frame h)]
  case captureCloseTest => rw [(execCaptureCloseTest_frame h)]
  case captureWrite => rw [(execCaptureWrite_frame h)]
  case gateEnd => exact (execGateEnd_frame h).drift
  case probeSettingsTake => exact (execProbeSettingsTake_frame h).drift
  case siteSettingsTake => rw [(execSiteSettingsTake_frame h)]
  case inboundByte => rw [(execInboundByte_frame h)]
  case frameGapExpiry => rw [(execFrameGapExpiry_frame h)]
  case transmitEnd => rw [(execTransmitEnd_frame h)]
  case unknownRequest => rw [(execUnknownRequest_frame h)]
  case status => rw [(execStatus_frame h)]
  case liveRead => rw [(execLiveRead_frame h)]
  case timeSet => rw [(execTimeSet_frame h)]
  case restart =>
    rcases execRestart_cases h with ⟨-, rfl⟩ | ⟨-, rfl⟩
    · rfl
    · rw [State.raise_drift, State.answer_drift]; exact (State.restartBlocks_frame s).drift
  case channelRestore => exact (execChannelRestore_channel h).drift
  case probeRestore => exact (execProbeRestore_frame h).drift
  case stageOpen => rw [(execStageOpen_frame h)]
  case stagePut => rw [(execStagePut_frame h)]
  case stageDiscard => rw [(execStageDiscard_frame h)]
  case stageCommit =>
    rcases execStageCommit_cases h with ⟨r, rfl⟩ | ⟨x, rs, r, -, -, -, -, rfl⟩
    · rfl
    · rw [State.answer_drift]; exact (State.commit_frame _ _ _).drift
  case tableRead => rw [(execTableRead_frame h)]
  case driftGet => rw [(execDriftGet_frame h)]
  case recordFetch => rw [(execRecordFetch_frame h)]
  case recordRelease => rw [(execRecordRelease_frame h)]
  case tallyFetch => rw [(execTallyFetch_frame h)]
  case tallyRelease => rw [(execTallyRelease_frame h)]
  case captureArm => rw [(execCaptureArm_frame h)]
  case captureFetch => rw [(execCaptureFetch_frame h)]
  case captureRelease => rw [(execCaptureRelease_frame h)]
  case probeEdge => exact (execProbeEdge_frame h).drift

/-- The commands that can reach the Temperature Unit; every other leaves it as it was, or at most starts its gate again. -/
theorem exec_temp (c : Instr) (s t : State) (h : exec c s = .next t) :
    (t.temp = { s.temp with gate := t.temp.gate }) ∨
    (∃ r1 r0, c = .powerOn r1 r0) ∨
    c = .gateEnd ∨
    c = .probeSettingsTake ∨
    (∃ tg bd, c = .probeRestore tg bd) ∨
    (∃ p, c = .probeEdge p) := by
  cases c
  case powerOn r1 r0 => exact .inr (.inl ⟨r1, r0, rfl⟩)
  case gateEnd => exact .inr (.inr (.inl rfl))
  case probeSettingsTake => exact .inr (.inr (.inr (.inl rfl)))
  case probeRestore tg bd => exact .inr (.inr (.inr (.inr (.inl ⟨tg, bd, rfl⟩))))
  case probeEdge p => exact .inr (.inr (.inr (.inr (.inr (⟨p, rfl⟩)))))
  all_goals left
  case channelSample => rw [(execChannelSample_channel h).temp]
  case pulseOverlong => rw [(execPulseOverlong_channel h).temp]
  case channelSettingsWaiting => rw [(execChannelSettingsWaiting_channel h).temp]
  case channelSupervision => rw [(execChannelSupervision_channel h).temp]
  case refEdge => rw [(execRefEdge_clock h).temp]
  case timebaseSilence => rw [(execTimebaseSilence_clock h).temp]
  case freeRunningBoundary => rw [(execFreeRunningBoundary_clock h).temp]
  case pulseReport => rw [(execPulseReport_frame h).temp]
  case holdExpiry => rw [(execHoldExpiry_frame h).temp]
  case pendingExpiry => rw [(execPendingExpiry_frame h).temp]
  case deliveryMarkLapse => rw [(execDeliveryMarkLapse_frame h).temp]
  case presenceSample => rw [(execPresenceSample_frame h).temp]
  case gapWithLoop => rw [(execGapWithLoop_frame h).temp]
  case gapWithoutLoop => rw [(execGapWithoutLoop_frame h).temp]
  case timeout => rw [(execTimeout_frame h).temp]
  case recordStoreDelivery => rw [(execRecordStoreDelivery_frame h)]
  case tallyRecord => rw [(execTallyRecord_frame h)]
  case tallyDrop => rw [(execTallyDrop_frame h)]
  case driftFeed => rw [(execDriftFeed_frame h)]
  case captureCloseTest => rw [(execCaptureCloseTest_frame h)]
  case captureWrite => rw [(execCaptureWrite_frame h)]
  case driftPolicyTake => rw [(execDriftPolicyTake_frame h)]
  case siteSettingsTake => rw [(execSiteSettingsTake_frame h)]
  case inboundByte => rw [(execInboundByte_frame h)]
  case frameGapExpiry => rw [(execFrameGapExpiry_frame h)]
  case transmitEnd => rw [(execTransmitEnd_frame h)]
  case unknownRequest => rw [(execUnknownRequest_frame h)]
  case status => rw [(execStatus_frame h)]
  case liveRead => rw [(execLiveRead_frame h)]
  case timeSet => rw [(execTimeSet_frame h)]
  case restart =>
    rcases execRestart_cases h with ⟨-, rfl⟩ | ⟨-, rfl⟩
    · rw [State.answer_temp]
    · rw [State.raise_temp, State.answer_temp]; exact (State.restartBlocks_frame s).temp
  case channelRestore => rw [(execChannelRestore_channel h).temp]
  case stageOpen => rw [(execStageOpen_frame h)]
  case stagePut => rw [(execStagePut_frame h)]
  case stageDiscard => rw [(execStageDiscard_frame h)]
  case stageCommit =>
    rcases execStageCommit_cases h with ⟨r, rfl⟩ | ⟨x, rs, r, -, -, -, -, rfl⟩
    · rw [State.answer_temp]
    · rw [State.answer_temp]; rw [(State.commit_frame _ _ _).temp]; rfl
  case tableRead => rw [(execTableRead_frame h)]
  case driftGet => rw [(execDriftGet_frame h)]
  case driftSet => rw [(execDriftSet_frame h)]
  case driftFreeze => rw [(execDriftFreeze_frame h)]
  case recordFetch => rw [(execRecordFetch_frame h)]
  case recordRelease => rw [(execRecordRelease_frame h)]
  case tallyFetch => rw [(execTallyFetch_frame h)]
  case tallyRelease => rw [(execTallyRelease_frame h)]
  case captureArm => rw [(execCaptureArm_frame h)]
  case captureFetch => rw [(execCaptureFetch_frame h)]
  case captureRelease => rw [(execCaptureRelease_frame h)]

/-- The commands that can reach a channel unit; every other leaves all sixteen as they were. -/
theorem exec_unit (c : Instr) (s t : State) (h : exec c s = .next t) :
    (∀ ch, t.unit ch = s.unit ch) ∨
    (∃ r1 r0, c = .powerOn r1 r0) ∨
    (∃ ch x, c = .channelSample ch x) ∨
    (∃ ch, c = .pulseOverlong ch) ∨
    (∃ ch, c = .channelSettingsWaiting ch) ∨
    c = .channelSupervision ∨
    (∃ tg bd, c = .restart tg bd) ∨
    (∃ tg bd, c = .channelRestore tg bd) ∨
    (∃ tg bd, c = .stageCommit tg bd) := by
  cases c
  case powerOn r1 r0 => exact .inr (.inl ⟨r1, r0, rfl⟩)
  case channelSample ch x => exact .inr (.inr (.inl ⟨ch, x, rfl⟩))
  case pulseOverlong ch => exact .inr (.inr (.inr (.inl ⟨ch, rfl⟩)))
  case channelSettingsWaiting ch => exact .inr (.inr (.inr (.inr (.inl ⟨ch, rfl⟩))))
  case channelSupervision => exact .inr (.inr (.inr (.inr (.inr (.inl rfl)))))
  case restart tg bd => exact .inr (.inr (.inr (.inr (.inr (.inr (.inl ⟨tg, bd, rfl⟩))))))
  case channelRestore tg bd => exact .inr (.inr (.inr (.inr (.inr (.inr (.inr (.inl ⟨tg, bd, rfl⟩)))))))
  case stageCommit tg bd => exact .inr (.inr (.inr (.inr (.inr (.inr (.inr (.inr (⟨tg, bd, rfl⟩))))))))
  all_goals left
  case refEdge => exact (execRefEdge_clock h).units
  case timebaseSilence => exact (execTimebaseSilence_clock h).units
  case freeRunningBoundary => exact (execFreeRunningBoundary_clock h).units
  case pulseReport => exact (execPulseReport_frame h).units
  case holdExpiry => exact (execHoldExpiry_frame h).units
  case pendingExpiry => exact (execPendingExpiry_frame h).units
  case deliveryMarkLapse => exact (execDeliveryMarkLapse_frame h).units
  case presenceSample => exact (execPresenceSample_frame h).units
  case gapWithLoop => exact (execGapWithLoop_frame h).units
  case gapWithoutLoop => exact (execGapWithoutLoop_frame h).units
  case timeout => exact (execTimeout_frame h).units
  case recordStoreDelivery => intro ch; rw [(execRecordStoreDelivery_frame h)]; rfl
  case tallyRecord => intro ch; rw [(execTallyRecord_frame h)]; rfl
  case tallyDrop => intro ch; rw [(execTallyDrop_frame h)]; rfl
  case driftFeed => intro ch; rw [(execDriftFeed_frame h)]; rfl
  case captureCloseTest => intro ch; rw [(execCaptureCloseTest_frame h)]; rfl
  case captureWrite => intro ch; rw [(execCaptureWrite_frame h)]; rfl
  case gateEnd => intro ch; simp only [State.unit, (execGateEnd_frame h).lanes]
  case probeSettingsTake => intro ch; simp only [State.unit, (execProbeSettingsTake_frame h).lanes]
  case driftPolicyTake => intro ch; rw [(execDriftPolicyTake_frame h)]; rfl
  case siteSettingsTake => intro ch; rw [(execSiteSettingsTake_frame h)]; rfl
  case inboundByte => intro ch; rw [(execInboundByte_frame h)]; rfl
  case frameGapExpiry => intro ch; rw [(execFrameGapExpiry_frame h)]; rfl
  case transmitEnd => intro ch; rw [(execTransmitEnd_frame h)]; rfl
  case unknownRequest => intro ch; rw [(execUnknownRequest_frame h)]; rfl
  case status => intro ch; rw [(execStatus_frame h)]; rfl
  case liveRead => intro ch; rw [(execLiveRead_frame h)]; rfl
  case timeSet => intro ch; rw [(execTimeSet_frame h)]; rfl
  case probeRestore => intro ch; simp only [State.unit, (execProbeRestore_frame h).lanes]
  case stageOpen => intro ch; rw [(execStageOpen_frame h)]; rfl
  case stagePut => intro ch; rw [(execStagePut_frame h)]; rfl
  case stageDiscard => intro ch; rw [(execStageDiscard_frame h)]; rfl
  case tableRead => intro ch; rw [(execTableRead_frame h)]; rfl
  case driftGet => intro ch; rw [(execDriftGet_frame h)]; rfl
  case driftSet => intro ch; rw [(execDriftSet_frame h)]; rfl
  case driftFreeze => intro ch; rw [(execDriftFreeze_frame h)]; rfl
  case recordFetch => intro ch; rw [(execRecordFetch_frame h)]; rfl
  case recordRelease => intro ch; rw [(execRecordRelease_frame h)]; rfl
  case tallyFetch => intro ch; rw [(execTallyFetch_frame h)]; rfl
  case tallyRelease => intro ch; rw [(execTallyRelease_frame h)]; rfl
  case captureArm => intro ch; rw [(execCaptureArm_frame h)]; rfl
  case captureFetch => intro ch; rw [(execCaptureFetch_frame h)]; rfl
  case captureRelease => intro ch; rw [(execCaptureRelease_frame h)]; rfl
  case probeEdge => intro ch; simp only [State.unit, (execProbeEdge_frame h).lanes]

end Sys2Proof.Machine
end

