-- ==== Sys2Proof/Laws/Closing.lean ====
section
/-! SUPPORT. Adoption and closing in the terms of the statements, what waits behind a record on its way to the Capture Unit, what the tally operations keep of the lengths of their lists, and
reading a field of bytes laid one after another. -/

namespace Sys2Proof.Machine

/-! ## Adoption and closing -/

/-- The lanes that an event leaves quiet adopt one after another (R75). -/
theorem State.settle_eq (s : State) : s.settle = lanesAdopt s := by
  simp only [State.settle, lanesAdopt, fours, List.foldl_cons, List.foldl_nil]

/-- Between the close and the open of a split a lane adopts only a generation that enables it (notes/assumptions/7.md). -/
theorem State.adoptAtSplit_eq (s : State) (ln : LaneId) : s.adoptAtSplit ln = splitAdopts s ln := by
  unfold State.adoptAtSplit splitAdopts
  cases s.tables.active <;> simp

/-- A close in the words of the rules (R82, R90, R91, R160). -/
theorem State.close_eq (s : State) (ln : LaneId) (ctx : Context) (tailgate timeout : Bool) :
    s.close ln ctx tailgate timeout = vehicleClosed s ln ctx tailgate timeout := by
  have hs : heldAfter (s.asm ln).heldSpeed ctx.speed =
      if (ctx.axles.filterMap fun x => x.axle.ownSpeed) = [] then (s.asm ln).heldSpeed
      else max 2778 (min 55556 (roundNat (ctx.axles.filterMap fun x => x.axle.ownSpeed).sum
        (ctx.axles.filterMap fun x => x.axle.ownSpeed).length)) := by
    unfold heldAfter Context.speed
    simp only [List.isEmpty_iff]
    split <;> rename_i h <;> split at h <;> simp_all [clampNat, Config.heldSpeedMin, Config.heldSpeedMax]
  unfold State.close vehicleClosed
  simp only [hs, Mail.deliver, supervisionOf, State.setAsm_store, State.setAsm_mail]
  congr 2
  cases s.store.serial <;> rfl

/-! ## Behind a record on its way to the Capture Unit (R175, R176, R178) -/

/-- The lane's last record on its way is changed, and no other. -/
theorem behindLast_split (ln : LaneId) (f : CaptureDelivery → CaptureDelivery) (before after : List CaptureDelivery)
    (d : CaptureDelivery) (hd : d.record.lane = ln) (ha : ∀ e ∈ after, e.record.lane ≠ ln) :
    behindLast ln f (before ++ d :: after) = before ++ f d :: after := by
  induction before with
  | nil => exact if_pos ⟨hd, by simpa using ha⟩
  | cons b rest ih =>
    have hn : ¬(b.record.lane = ln ∧ (rest ++ d :: after).all (fun e => e.record.lane ≠ ln) = true) := by simp [hd]
    exact (if_neg hn).trans (congrArg (b :: ·) ih)

/-- What the Capture Unit does when it is told that a lane has gone OUT. -/
theorem State.captureLaneOut_told (s : State) (ln : LaneId) : CaptureToldOut s (s.captureLaneOut ln) ln := by
  have hw : s.capture.writing = true ↔ s.capture.state = .armed ∨ s.capture.state = .recording := by
    unfold CaptureUnit.writing; cases s.capture.state <;> simp
  unfold State.captureLaneOut State.takeLaneOut State.recordComing CaptureToldOut
  refine ⟨fun h => ?_, fun h hn => ?_, fun before d after h hs hd ha => ?_⟩
  · rw [← hw] at h
    rw [if_neg (fun k => h ⟨k.1, k.2.1⟩), if_neg h]
    exact ⟨rfl, rfl⟩
  · rw [← hw] at h
    have : s.mail.toCapture.any (fun d => decide (d.record.lane = ln)) = false := by simpa using hn
    rw [if_neg (by simp [this]), if_pos h]
    exact ⟨rfl, rfl⟩
  · rw [← hw] at h
    rw [if_pos ⟨h.1, h.2, by simp [hs, hd]⟩]
    refine ⟨rfl, ?_⟩
    simp only [State.waitBehind, hs]
    exact behindLast_split ln _ before after d hd ha

/-! ## Lengths of the lists of counts (R166) -/

@[simp] theorem countBin_length (l : List Nat) (i : Nat) : (countBin l i).length = l.length := by simp [countBin]

theorem Tally.opened_sized (tw : Int) : (Tally.opened tw).Sized := by simp [Tally.Sized, Tally.opened]

theorem Tally.seeTw_sized (t : Tally) (tw : Int) (h : t.Sized) : (t.seeTw tw).Sized := h

theorem Tally.record_sized (t : Tally) (r : VehicleRecord) (h : t.Sized) : (t.record r).Sized := by
  have hl : ∀ (axles : List AxleEntry) (l : List Nat),
      (axles.foldl (fun l a => countBin l (binOf 1000 a.load)) l).length = l.length := by
    intro axles
    induction axles with
    | nil => intro l; rfl
    | cons a rest ih => intro l; simp [ih]
  obtain ⟨h1, h2, h3, h4, h5⟩ := h
  refine ⟨?_, ?_, ?_, ?_, ?_⟩
  · simp [Tally.record, h1]
  · simp [Tally.record, h2]
  · simp only [Tally.record]; split <;> simp [h3]
  · simp only [Tally.record]; split <;> simp [h4]
  · simp only [Tally.record]; split <;> simp [hl, h5]

/-! ## Fields of bytes laid one after another (R185) -/

@[simp] theorem leBytes_length (n v : Nat) : (leBytes n v).length = n := by
  induction n generalizing v with
  | zero => rfl
  | succ n ih => simp [leBytes, ih]

/-- A number sent in n bytes is read as its residue. -/
theorem leNat_leBytes (n v : Nat) : leNat (leBytes n v) = v % 256 ^ n := by
  induction n generalizing v with
  | zero => simp [leBytes, leNat, Nat.mod_one]
  | succ n ih =>
    simp only [leBytes, leNat, ih, BitVec.toNat_ofNat, Nat.pow_succ']
    exact (Nat.mod_mul).symm

/-- A field beyond the first part stands in the second. -/
theorem field_append_right (a b : List Byte) (i n : Nat) (h : a.length ≤ i) : field (a ++ b) i n = field b (i - a.length) n := by
  simp [field, slice, List.drop_append, List.drop_eq_nil_of_le h]

/-- A field within the first part is read there. -/
theorem field_append_left (a b : List Byte) (i n : Nat) (h : i + n ≤ a.length) : field (a ++ b) i n = field a i n := by
  have hd : n ≤ (a.drop i).length := by simp; omega
  have h0 : i - a.length = 0 := by omega
  simp only [field, slice, List.drop_append, h0, List.drop_zero]
  rw [List.take_append_of_le_length hd]

/-- A field that is the whole of n bytes laid first. -/
theorem field_leBytes (n v : Nat) (rest : List Byte) : field (leBytes n v ++ rest) 0 n = v % 256 ^ n := by
  rw [field_append_left _ _ _ _ (by simp)]
  simp [field, slice, List.take_of_length_le, leNat_leBytes]

end Sys2Proof.Machine
end

