-- ==== Sys2Proof/Laws/PerInstr.lean ====
section
/-! SUPPORT. Families of facts about every command as syntax, one lemma per constructor. -/

namespace Sys2Proof.Laws

/-- A well-formed command that serves a request comes from a frame that the receiver accepts: its body fits (R180) and its kind
is a request kind (R180). -/
def RequestFits.Statement (c : Instr) : Prop :=
  c.wellFormed = true → ∀ kind tag body, encodeRequest c = some (kind, tag, body) →
    body.length ≤ Config.bodyMax ∧ kind.toNat < 0x80

/-- A command that is no request fits. -/
theorem requestFits_none {c : Instr} (h : encodeRequest c = none) : RequestFits.Statement c := by
  intro _ k t b he
  rw [h] at he
  cases he

/-- A command whose request has a kind below 0x80 and whose well-formedness bounds its body fits. -/
theorem requestFits_some {c : Instr} {kind tag : Byte} {body : List Byte} (h : encodeRequest c = some (kind, tag, body))
    (hk : c.wellFormed = true → kind.toNat < 0x80) (hb : c.wellFormed = true → bodyFits body = true) :
    RequestFits.Statement c := by
  intro hw k t b he
  rw [h] at he
  cases he
  exact ⟨by simpa [bodyFits] using hb hw, hk hw⟩

theorem RequestFits.powerOn (rate1 rate0 : Bool) : RequestFits.Statement (.powerOn rate1 rate0) :=
  requestFits_none rfl
theorem RequestFits.channelSample (ch : ChannelId) (x : Code) : RequestFits.Statement (.channelSample ch x) :=
  requestFits_none rfl
theorem RequestFits.pulseOverlong (ch : ChannelId) : RequestFits.Statement (.pulseOverlong ch) :=
  requestFits_none rfl
theorem RequestFits.channelSettingsWaiting (ch : ChannelId) : RequestFits.Statement (.channelSettingsWaiting ch) :=
  requestFits_none rfl
theorem RequestFits.channelSupervision : RequestFits.Statement .channelSupervision :=
  requestFits_none rfl
theorem RequestFits.refEdge (level : Bool) : RequestFits.Statement (.refEdge level) :=
  requestFits_none rfl
theorem RequestFits.timebaseSilence : RequestFits.Statement .timebaseSilence :=
  requestFits_none rfl
theorem RequestFits.freeRunningBoundary : RequestFits.Statement .freeRunningBoundary :=
  requestFits_none rfl
theorem RequestFits.pulseReport : RequestFits.Statement .pulseReport :=
  requestFits_none rfl
theorem RequestFits.holdExpiry (ch : ChannelId) : RequestFits.Statement (.holdExpiry ch) :=
  requestFits_none rfl
theorem RequestFits.pendingExpiry (lane : LaneId) : RequestFits.Statement (.pendingExpiry lane) :=
  requestFits_none rfl
theorem RequestFits.deliveryMarkLapse (lane : LaneId) : RequestFits.Statement (.deliveryMarkLapse lane) :=
  requestFits_none rfl
theorem RequestFits.presenceSample (lane : LaneId) (level : Bool) : RequestFits.Statement (.presenceSample lane level) :=
  requestFits_none rfl
theorem RequestFits.gapWithLoop (lane : LaneId) : RequestFits.Statement (.gapWithLoop lane) :=
  requestFits_none rfl
theorem RequestFits.gapWithoutLoop (lane : LaneId) : RequestFits.Statement (.gapWithoutLoop lane) :=
  requestFits_none rfl
theorem RequestFits.timeout (lane : LaneId) : RequestFits.Statement (.timeout lane) :=
  requestFits_none rfl
theorem RequestFits.recordStoreDelivery : RequestFits.Statement .recordStoreDelivery :=
  requestFits_none rfl
theorem RequestFits.tallyRecord : RequestFits.Statement .tallyRecord :=
  requestFits_none rfl
theorem RequestFits.tallyDrop : RequestFits.Statement .tallyDrop :=
  requestFits_none rfl
theorem RequestFits.driftFeed : RequestFits.Statement .driftFeed :=
  requestFits_none rfl
theorem RequestFits.captureCloseTest : RequestFits.Statement .captureCloseTest :=
  requestFits_none rfl
theorem RequestFits.captureWrite : RequestFits.Statement .captureWrite :=
  requestFits_none rfl
theorem RequestFits.gateEnd : RequestFits.Statement .gateEnd :=
  requestFits_none rfl
theorem RequestFits.probeSettingsTake : RequestFits.Statement .probeSettingsTake :=
  requestFits_none rfl
theorem RequestFits.driftPolicyTake : RequestFits.Statement .driftPolicyTake :=
  requestFits_none rfl
theorem RequestFits.siteSettingsTake : RequestFits.Statement .siteSettingsTake :=
  requestFits_none rfl
theorem RequestFits.inboundByte (byte : Byte) (stopFault : Bool) : RequestFits.Statement (.inboundByte byte stopFault) :=
  requestFits_none rfl
theorem RequestFits.frameGapExpiry : RequestFits.Statement .frameGapExpiry :=
  requestFits_none rfl
theorem RequestFits.transmitEnd : RequestFits.Statement .transmitEnd :=
  requestFits_none rfl
theorem RequestFits.unknownRequest (kind tag : Byte) (body : List Byte) : RequestFits.Statement (.unknownRequest kind tag body) :=
  requestFits_some rfl (fun h => by simp only [Instr.wellFormed, Bool.and_eq_true, decide_eq_true_eq] at h; exact h.1.2)
    (fun h => by simp only [Instr.wellFormed, Bool.and_eq_true] at h; exact h.1.1)
theorem RequestFits.status (tag : Byte) (body : List Byte) : RequestFits.Statement (.status tag body) :=
  requestFits_some rfl (fun _ => by decide) id
theorem RequestFits.liveRead (tag : Byte) (body : List Byte) : RequestFits.Statement (.liveRead tag body) :=
  requestFits_some rfl (fun _ => by decide) id
theorem RequestFits.timeSet (tag : Byte) (body : List Byte) : RequestFits.Statement (.timeSet tag body) :=
  requestFits_some rfl (fun _ => by decide) id
theorem RequestFits.restart (tag : Byte) (body : List Byte) : RequestFits.Statement (.restart tag body) :=
  requestFits_some rfl (fun _ => by decide) id
theorem RequestFits.channelRestore (tag : Byte) (body : List Byte) : RequestFits.Statement (.channelRestore tag body) :=
  requestFits_some rfl (fun _ => by decide) id
theorem RequestFits.probeRestore (tag : Byte) (body : List Byte) : RequestFits.Statement (.probeRestore tag body) :=
  requestFits_some rfl (fun _ => by decide) id
theorem RequestFits.stageOpen (tag : Byte) (body : List Byte) : RequestFits.Statement (.stageOpen tag body) :=
  requestFits_some rfl (fun _ => by decide) id
theorem RequestFits.stagePut (tag : Byte) (body : List Byte) : RequestFits.Statement (.stagePut tag body) :=
  requestFits_some rfl (fun _ => by decide) id
theorem RequestFits.stageDiscard (tag : Byte) (body : List Byte) : RequestFits.Statement (.stageDiscard tag body) :=
  requestFits_some rfl (fun _ => by decide) id
theorem RequestFits.stageCommit (tag : Byte) (body : List Byte) : RequestFits.Statement (.stageCommit tag body) :=
  requestFits_some rfl (fun _ => by decide) id
theorem RequestFits.tableRead (tag : Byte) (body : List Byte) : RequestFits.Statement (.tableRead tag body) :=
  requestFits_some rfl (fun _ => by decide) id
theorem RequestFits.driftGet (tag : Byte) (body : List Byte) : RequestFits.Statement (.driftGet tag body) :=
  requestFits_some rfl (fun _ => by decide) id
theorem RequestFits.driftSet (tag : Byte) (body : List Byte) : RequestFits.Statement (.driftSet tag body) :=
  requestFits_some rfl (fun _ => by decide) id
theorem RequestFits.driftFreeze (tag : Byte) (body : List Byte) : RequestFits.Statement (.driftFreeze tag body) :=
  requestFits_some rfl (fun _ => by decide) id
theorem RequestFits.recordFetch (tag : Byte) (body : List Byte) : RequestFits.Statement (.recordFetch tag body) :=
  requestFits_some rfl (fun _ => by decide) id
theorem RequestFits.recordRelease (tag : Byte) (body : List Byte) : RequestFits.Statement (.recordRelease tag body) :=
  requestFits_some rfl (fun _ => by decide) id
theorem RequestFits.tallyFetch (tag : Byte) (body : List Byte) : RequestFits.Statement (.tallyFetch tag body) :=
  requestFits_some rfl (fun _ => by decide) id
theorem RequestFits.tallyRelease (tag : Byte) (body : List Byte) : RequestFits.Statement (.tallyRelease tag body) :=
  requestFits_some rfl (fun _ => by decide) id
theorem RequestFits.captureArm (tag : Byte) (body : List Byte) : RequestFits.Statement (.captureArm tag body) :=
  requestFits_some rfl (fun _ => by decide) id
theorem RequestFits.captureFetch (tag : Byte) (body : List Byte) : RequestFits.Statement (.captureFetch tag body) :=
  requestFits_some rfl (fun _ => by decide) id
theorem RequestFits.captureRelease (tag : Byte) (body : List Byte) : RequestFits.Statement (.captureRelease tag body) :=
  requestFits_some rfl (fun _ => by decide) id
theorem RequestFits.probeEdge (probe : ProbeId) : RequestFits.Statement (.probeEdge probe) :=
  requestFits_none rfl

end Sys2Proof.Laws
end

