-- ==== Sys2Proof/Laws/Units.lean ====
section
/-! SUPPORT. What each operation of a channel unit keeps of ChannelUnit.Ok. -/

namespace Sys2Proof.Machine

theorem ChannelUnit.start_ok : ChannelUnit.start.Ok := by
  simp [ChannelUnit.Ok, ChannelUnit.start, ChannelUnit.running]

theorem ChannelUnit.activate_ok (u : ChannelUnit) (h : u.settings.isSome = true) : u.activate.Ok := by
  simp [ChannelUnit.Ok, ChannelUnit.activate, ChannelUnit.running, h]

theorem ChannelUnit.disable_ok (u : ChannelUnit) : u.disable.Ok := by
  simp [ChannelUnit.Ok, ChannelUnit.disable, ChannelUnit.running]

theorem ChannelUnit.fail_ok (u : ChannelUnit) (hs : u.settings.isSome = true) (ho : u.overlong ≤ 2) (hm : u.miss ≤ 32) :
    u.fail.Ok := by
  simp [ChannelUnit.Ok, ChannelUnit.fail, ChannelUnit.running, hs, ho, hm]

/-- Settings may change freely as long as there are some. -/
theorem ChannelUnit.ok_settings (u v : ChannelUnit) (h : u.Ok) (hs : v.settings.isSome = true) (h1 : v.service = u.service)
    (h2 : v.overlong = u.overlong) (h3 : v.miss = u.miss) (h4 : v.detector = u.detector)
    (h5 : v.lastExcess = u.lastExcess) : v.Ok := by
  obtain ⟨-, hd, hr, hn, ho, hm⟩ := h
  simp only [ChannelUnit.Ok, ChannelUnit.running, h1, h2, h3, h4, h5]
  exact ⟨fun _ => hs, hd, hr, hn, ho, hm⟩

theorem ChannelUnit.adopt_ok (u : ChannelUnit) (h : u.Ok) : u.adopt.Ok := by
  unfold ChannelUnit.adopt
  split
  · exact h
  · next w _ =>
    have hv : ({ u with settings := some w.settings, generation := some w.generation, waiting := none } : ChannelUnit).Ok :=
      ChannelUnit.ok_settings u _ h rfl rfl rfl rfl rfl rfl
    unfold ChannelUnit.adoptEnable
    split
    · exact ChannelUnit.activate_ok _ rfl
    · exact hv
    · exact hv
    · exact hv
    · exact hv
    · exact ChannelUnit.disable_ok _
    · exact ChannelUnit.disable_ok _
    · exact ChannelUnit.disable_ok _

theorem ChannelUnit.adoptIfQuiet_ok (u : ChannelUnit) (h : u.Ok) : u.adoptIfQuiet.Ok := by
  unfold ChannelUnit.adoptIfQuiet
  split
  · exact u.adopt_ok h
  · exact h

/-- A running unit stays in order when its sample, baseline and detector change and its overlong count does not rise. -/
theorem ChannelUnit.ok_running (u v : ChannelUnit) (h : u.Ok) (hr : u.running = true) (h1 : v.service = u.service)
    (h2 : v.settings = u.settings) (h3 : v.miss = u.miss) (h4 : v.overlong ≤ u.overlong) : v.Ok := by
  obtain ⟨hs, -, -, hn, -, hm⟩ := h
  have hn := hn hr
  have hv : v.running = true := by simpa only [ChannelUnit.running, h1] using hr
  have hne : v.service ≠ .disabled := by
    intro hd
    rw [ChannelUnit.running, hd] at hv
    simp at hv
  refine ⟨fun _ => ?_, fun hd => absurd hd hne, fun hf => ?_, fun _ => ⟨by omega, by omega⟩, by omega, by omega⟩
  · rw [h2]
    exact hs (h1 ▸ hne)
  · rw [hv] at hf
    cases hf

theorem ChannelUnit.take_ok (u : ChannelUnit) (cfg : DetectorSettings) (ch : ChannelId) (t : Tick) (x : Code) (h : u.Ok)
    (hr : u.running = true) : (u.take cfg ch t x).1.Ok := by
  unfold ChannelUnit.take
  split
  · exact ChannelUnit.ok_running u _ h hr rfl rfl rfl (Nat.le_refl _)
  · simp only []
    refine ChannelUnit.ok_running u _ h hr rfl rfl rfl ?_
    simp only []
    split
    · exact Nat.zero_le _
    · exact Nat.le_refl _

/-- An overdue pulse belongs to a running unit. -/
theorem ChannelUnit.overdue_running (u : ChannelUnit) (h : u.Ok) (ho : u.overdue = true) : u.running = true := by
  by_contra hr
  have hq := (h.2.2.1 (by simpa using hr)).1
  simp [ChannelUnit.overdue, hq] at ho

theorem ChannelUnit.overlongPulse_ok (u : ChannelUnit) (h : u.Ok) (hr : u.running = true) : u.overlongPulse.Ok := by
  obtain ⟨hs, hd, -, hn, -, -⟩ := h
  have hn := hn hr
  have hne : u.service ≠ .disabled := by
    intro hd
    rw [ChannelUnit.running, hd] at hr
    simp at hr
  unfold ChannelUnit.overlongPulse
  simp only []
  split
  · exact ChannelUnit.fail_ok _ (hs hne) (by simp only []; omega) (by simp only []; omega)
  · next hl =>
    refine ⟨fun _ => hs hne, fun hd => absurd hd hne, fun hf => ?_, fun _ => ⟨?_, hn.2⟩, ?_, ?_⟩
    · simp only [ChannelUnit.running] at hf hr
      simp [hr] at hf
    · simp only [] at hl ⊢; omega
    · simp only [] at hl ⊢; omega
    · simp only []; omega

/-- An overlong pulse of a running unit, with the adoption that the failing one makes (R15, R24), keeps the unit in order. -/
theorem ChannelUnit.overlongPulse_adopt_ok (u : ChannelUnit) (h : u.Ok) (hr : u.running = true) :
    u.overlongPulse.adoptIfQuiet.Ok :=
  ChannelUnit.adoptIfQuiet_ok _ (u.overlongPulse_ok h hr)

@[simp] theorem ChannelUnit.restore_service (u : ChannelUnit) : u.restore.service = .active := rfl
@[simp] theorem ChannelUnit.restore_detector (u : ChannelUnit) : u.restore.detector = .quiet := rfl
@[simp] theorem ChannelUnit.restore_seed (u : ChannelUnit) : u.restore.seed = true := rfl
@[simp] theorem ChannelUnit.restore_settings (u : ChannelUnit) : u.restore.settings = u.settings := rfl
@[simp] theorem ChannelUnit.restore_generation (u : ChannelUnit) : u.restore.generation = u.generation := rfl

theorem ChannelUnit.restore_ok (u : ChannelUnit) (h : u.settings.isSome = true) : u.restore.Ok := by
  simp [ChannelUnit.Ok, ChannelUnit.restore, ChannelUnit.activate, ChannelUnit.running, h]

/-- A restored unit adopts nothing before its seeding sample (R30). -/
theorem ChannelUnit.restore_adoptsAtOnce (u : ChannelUnit) : u.restore.adoptsAtOnce = false := by
  simp only [ChannelUnit.adoptsAtOnce, ChannelUnit.restore]
  cases u.waiting <;> simp

/-- The seeding sample of a unit adopts whatever waits, at once or not (R17, R30). -/
theorem ChannelUnit.seedOn_adopts (u : ChannelUnit) (x : Code) : (u.seedOn x).adoptIfQuiet = (u.seedOn x).adopt := if_pos rfl

theorem ChannelUnit.judge_ok (u : ChannelUnit) (v : Supervision) (ch : ChannelId) (h : u.Ok) : (u.judge v ch).Ok := by
  unfold ChannelUnit.judge
  split
  · exact h
  · next hr =>
    have hr : u.running = true := by simpa using hr
    obtain ⟨hs, hd, hq, hn, ho, hm⟩ := h
    have hn' := hn hr
    have hne : u.service ≠ .disabled := by
      intro hd
      rw [ChannelUnit.running, hd] at hr
      simp at hr
    split
    · unfold ChannelUnit.contribute
      simp only [ChannelUnit.Ok, ChannelUnit.running] at *
      split <;> simp_all
    · split
      · unfold ChannelUnit.missOne
        simp only []
        split
        · exact ChannelUnit.fail_ok _ (hs hne) (by simp only []; omega) (by simp only [Config.missFailed]; omega)
        · next h32 =>
          have h32' : min Config.missFailed (u.miss + 1) ≤ 31 := by simp only [Config.missFailed] at h32 ⊢; omega
          split
          · simp only [ChannelUnit.Ok, ChannelUnit.running]
            refine ⟨fun _ => hs hne, ?_, ?_, fun _ => ⟨hn'.1, h32'⟩, ho, by omega⟩ <;> simp
          · refine ⟨fun _ => hs hne, fun hd => absurd hd hne, fun hf => ?_, fun _ => ⟨hn'.1, h32'⟩, ho, ?_⟩
            · simp only [ChannelUnit.running] at hf hr
              simp [hr] at hf
            · simp only []; omega
      · exact ⟨hs, hd, hq, hn, ho, hm⟩

theorem ChannelUnit.restart_ok (u : ChannelUnit) (h : u.Ok) : u.restart.Ok := by
  obtain ⟨hs, -, hq, -, -, -⟩ := h
  exact ⟨hs, fun _ => ⟨rfl, rfl⟩, fun hf => ⟨rfl, (hq hf).2⟩, fun _ => ⟨Nat.zero_le _, Nat.zero_le _⟩, Nat.zero_le _,
    Nat.zero_le _⟩

theorem ChannelUnit.receive_ok (u : ChannelUnit) (g : Generation) (ch : ChannelId) (h : u.Ok) : (u.receive g ch).Ok := h

/-- A successful commit hands every unit its settings as waiting (R33). -/
theorem State.promote_unit (s : State) (set : TableSet) (reset : Bool) (ch : ChannelId) :
    (s.promote set reset).unit ch = (s.unit ch).receive (set.generation (nextGeneration s.tables.counter)) ch := by
  obtain ⟨ln, p⟩ := ch
  match ln, p with
  | 0, 0 => rfl
  | 0, 1 => rfl
  | 0, 2 => rfl
  | 0, 3 => rfl
  | 1, 0 => rfl
  | 1, 1 => rfl
  | 1, 2 => rfl
  | 1, 3 => rfl
  | 2, 0 => rfl
  | 2, 1 => rfl
  | 2, 2 => rfl
  | 2, 3 => rfl
  | 3, 0 => rfl
  | 3, 1 => rfl
  | 3, 2 => rfl
  | 3, 3 => rfl

/-- Putting a unit back touches no other. -/
theorem State.putUnit_ok (s : State) (ch : ChannelId) (u : ChannelUnit) (h : s.ChannelInv) (hu : u.Ok) :
    (s.putUnit ch u).ChannelInv := by
  intro c
  by_cases hc : c = ch
  · subst hc
    rw [State.putUnit_unit]
    exact hu
  · rw [State.putUnit_unit_ne s u hc]
    exact h c

/-- Two states with the same units are in order together. -/
theorem State.channelInv_of_units {s t : State} (h : s.ChannelInv) (hu : ∀ ch, t.unit ch = s.unit ch) : t.ChannelInv :=
  fun ch => by rw [hu ch]; exact h ch

end Sys2Proof.Machine
end

