-- ==== Sys2Proof/Tests/Slice0.lean ====
section
/-! SUPPORT. Tests of the model: ill-formed commands that the checks refuse, one step of each command on small states, with results
taken from the manual's tables and worked calculations, and a witness for the hypotheses of every statement that has any. -/

namespace Sys2Proof.Tests

-- One test after another: their kernel evaluations would otherwise all wait at once, each on a thread of its own.
set_option Elab.async false

open Sys2Proof Sys2Proof.Machine

/-! ## Helpers -/

/-- A command answers a next state of which p holds. -/
def did (c : Instr) (s : State) (p : State → Bool) : Bool :=
  match exec c s with
  | .next t => p t
  | _ => false

/-- The body of the reply at the tail of the outgoing queue. -/
def lastReply (s : State) : List Byte :=
  match s.link.outgoing.getLast? with
  | some (.reply r) => r.body
  | _ => []

/-- The state at a tick. -/
def clockAt (t : Nat) (s : State) : State := { s with tb := { s.tb with t := BitVec.ofNat 32 t } }

/-- The detector settings of the manual's accepted-pulse sequence. -/
def settings : DetectorSettings :=
  { enabled := true, k := 0, m := 10, thOn := 400, thOff := 200, cOn := 3, cOff := 4, wMin := 15, wMax := 20000 }

/-- A running unit with those settings, QUIET, its baseline at 0. -/
def unitOn : ChannelUnit := { ChannelUnit.start with service := .active, settings := some settings, generation := some 1 }

/-- Reset with one unit in a lane's four places. -/
def withUnits (u : ChannelUnit) : State :=
  { State.reset with lanes := State.reset.lanes.map fun l => { l with units := Four.fill u } }

/-- The generation made of the default set. -/
def gen1 : Generation := TableSet.standard.generation 1

/-- A lane in service under the default settings, with nothing in hand. -/
def laneOn : Lane :=
  { units := Four.fill unitOn
    matcher := { Matcher.start with windows := some (windowsOf LaneItem.standard 9990) }
    asm := { Assembler.start with adopted := some gen1, working := some LaneItem.standard, service := .inService } }

/-- The device with generation 1 active and adopted by every lane, LOCKED with N_ref = 9 990, its STARTED notice sent. -/
def sited : State :=
  { State.reset with
    tb := { State.reset.tb with lock := .locked, nRef := 9990, tLast := some 0 }
    lanes := Four.fill laneOn
    tables := { staging := none, active := some gen1, retiring := none, counter := 1 }
    link := { State.reset.link with outgoing := [] } }

/-- A pulse report of a channel, with its onset and end. -/
def pulse (ch : ChannelId) (onset ended : Nat) : PulseReport :=
  { channel := ch, onset := BitVec.ofNat 32 onset, ended := BitVec.ofNat 32 ended, width := ended - onset, peak := 3000
    area := 1000000, clipped := false }

/-- A two-wheel crossing of a lane's row at an onset. -/
def crossing (ln : LaneId) (row : Row) (onset : Nat) : Crossing :=
  let first : Strip := match row with | .one => 0 | .two => 2
  { lane := ln, row := row, onset := BitVec.ofNat 32 onset, left := some (pulse ⟨ln, first⟩ onset (onset + 40))
    right := some (pulse ⟨ln, first + 1⟩ onset (onset + 40)), straddle := false, missingSide := false }

/-- A BOTH axle with an own speed. -/
def axleAt (ln : LaneId) (time speed : Nat) : Axle :=
  { lane := ln, row1 := some (crossing ln .one time), row2 := some (crossing ln .two (time + 675)), ownSpeed := some speed
    time := BitVec.ofNat 32 time }

/-- A context of BOTH axles at 25 000 mm/s, a given number of ticks apart. -/
def contextOf (ln : LaneId) (times : List Nat) (now : Nat) : Context :=
  { generation := gen1, tw := 200, held := true, band := 4, kd := 16384, openTick := BitVec.ofNat 32 now
    lastTick := BitVec.ofNat 32 now, fell := false, split := false
    axles := times.map fun t => { axle := axleAt ln t 25000, eff := 25000, spacing := none } }

/-- A GOOD record of class 5 in lane 1, of two axles. -/
def record : VehicleRecord :=
  { serial := some 1, lane := 0, seconds := 7197, subtick := 9470, speed := some 1598, cls := 5, quality := .good, split := false
    conditions := { tempHeld := false, timebaseFree := false, tailgate := false, timeout := false, captured := false }
    flags := { axleOver := false, gvwOver := false, laneBanned := false }
    tw := 215, generation := 1, kd := 16384, gvw := 12010, wheelbase := 4120
    axles := [
      { load := 5810, left := 2900, right := 2910, spacing := some 4120, speed := some 1598, row := .both, straddle := false
        single := .clear },
      { load := 6200, left := 3100, right := 3100, spacing := none, speed := some 1598, row := .both, straddle := false
        single := .clear }] }

/-- A one-byte frame body of a given length. -/
def bodyOf (n : Nat) : List Byte := List.replicate n 0

/-! ## WellFormed and Decode -/

/-- A body of 1 025 bytes fits no frame (R180). -/
theorem test_wellFormed_refuses_long_body : (Instr.stagePut 0 (bodyOf 1025)).wellFormed = false := by decide +kernel

/-- The unknown request's body has the same limit. -/
theorem test_wellFormed_refuses_long_unknown : (Instr.unknownRequest 0x7F 0 (bodyOf 1025)).wellFormed = false := by decide +kernel

/-- A body of 1 024 bytes fits. -/
theorem test_wellFormed_accepts_full_body : (Instr.stagePut 0 (bodyOf 1024)).wellFormed = true := by decide +kernel

/-- UNKNOWN_REQUEST does not carry the kind of a request (table of R185). -/
theorem test_wellFormed_refuses_known_kind : (Instr.unknownRequest 0x2A 0 []).wellFormed = false := by decide

/-- A kind of 0x80 or above is never queued (R181). -/
theorem test_wellFormed_refuses_reply_kind : (Instr.unknownRequest 0x80 0 []).wellFormed = false := by decide

/-- No row of the table has bits, so no word spells a command and the queue stays as it is. -/
theorem test_no_word_spells_a_command : decodeTableWord 16 0x1234 = none ∧ (State.reset.withFetchWord 16 0x1234).pending = [] := by
  decide

/-- Kinds of the table of R185. -/
theorem test_kinds_of_requests :
    decodeRequest 0x01 7 [] = .status 7 [] ∧ decodeRequest 0x13 7 [1] = .stageCommit 7 [1] ∧
    decodeRequest 0x1A 7 [4, 1] = .driftFreeze 7 [4, 1] ∧ decodeRequest 0x2A 7 [] = .captureRelease 7 [] ∧
    decodeRequest 0x15 7 [] = .unknownRequest 0x15 7 [] := by
  decide

/-- The check value of the frame CRC (R180): the bytes of 123456789 give 0x29B1. -/
theorem test_crc_check_value : crc16 [0x31, 0x32, 0x33, 0x34, 0x35, 0x36, 0x37, 0x38, 0x39] = 0x29B1 := by decide +kernel

/-! ## Timebase (worked sequences A to C, the stamp) -/

/-- Sequence A before its locking edge. -/
def searching : State :=
  { State.reset with tb := { State.reset.tb with
    t := 33094, tLast := some 23104, run := [9993, 9991], seconds := 3, mark := 30000 } }

theorem test_third_candidate_locks : did (.refEdge true) searching (fun t =>
    t.tb.lock = .locked && t.tb.nRef = 9991 && t.tb.seconds = 3 && t.tb.mark = 33094 && t.tb.run = []) = true := by
  decide +kernel

/-- Sequence C: an early edge. -/
theorem test_early_edge_is_a_boundary : did (.refEdge true)
    { State.reset with tb := { State.reset.tb with
      t := 59987, lock := .locked, nRef := 9990, seconds := 100, mark := 50000, tLast := some 50000 } } (fun t =>
    t.tb.seconds = 101 && t.tb.mark = 59987 && t.tb.nRef = 9987) = true := by
  decide +kernel

theorem test_silence_frees : did .timebaseSilence (clockAt 15000 sited) (fun t => t.tb.lock = .free && t.tb.nRef = 9990) = true := by
  decide +kernel

/-- Sequence B: the boundary at 43 085. -/
theorem test_free_running_boundary : did .freeRunningBoundary
    { State.reset with tb := { State.reset.tb with t := 43085, nRef := 9991, seconds := 3, mark := 33094 } } (fun t =>
    t.tb.seconds = 4 && t.tb.mark = 43085) = true := by
  decide +kernel

theorem test_boundary_not_due : did .freeRunningBoundary (clockAt 9999 State.reset) (fun t => t = clockAt 9999 State.reset) = true := by
  decide +kernel

/-- The worked stamp: axle time 980 000 against mark 1 000 500. -/
theorem test_stamp_before_mark :
    Timebase.stamp { State.reset.tb with seconds := 7200, mark := 1000500, nRef := 9990 } 980000 = (7197, 9470) := by
  decide +kernel

theorem test_time_set : did (.timeSet 9 [0x78, 0x56, 0x34, 0x12]) State.reset (fun t =>
    t.tb.seconds = 0x12345678 && lastReply t = [0x00]) = true := by
  decide +kernel

/-! ## Power-on, the step, restart -/

/-- RATE1 high and RATE0 low give 460 800 bit/s (R179). -/
theorem test_power_on_straps : did (.powerOn true false) sited (fun t => t.link.rate = .r460800 && t.tables.active = none) = true := by
  decide +kernel

/-- The front command of the queue runs, the rest stays. -/
theorem test_step_takes_the_front :
    (match step { State.reset with pending := [.refEdge true, .gateEnd] } with
      | .next t => t.pending = [.gateEnd] && t.tb.refHigh
      | _ => false) = true := by
  decide +kernel

/-- With nothing due and the line busy, T advances by one (notes/assumptions/1.md). -/
theorem test_idle_step_ticks :
    (match step { State.reset with link := { State.reset.link with outgoing := [], sending := some (.notice (.started true false)) } } with
      | .next t => t.tb.t = 1
      | _ => false) = true := by
  decide +kernel

theorem test_restart_keeps_the_clock : did (.restart 5 []) (clockAt 777 sited) (fun t =>
    t.tb.t = 777 && t.tables.counter = 1 && (t.unit ⟨0, 0⟩).seed &&
    t.link.outgoing.getLast? = some (.notice (.started false true))) = true := by
  decide +kernel

/-! ## Strip Channel Units -/

/-- The worked conditioning step: y = 100, b = 25 600, x = 107 with k = 2 and m = 10. -/
theorem test_conditioning_step : did (.channelSample ⟨0, 0⟩ 107)
    (withUnits { unitOn with y := 100, baseline := 25600, settings := some { settings with k := 2 } }) (fun t =>
    (t.unit ⟨0, 0⟩).y = 102 && (t.unit ⟨0, 0⟩).lastExcess = 2 && (t.unit ⟨0, 0⟩).baseline = 25601) = true := by
  decide +kernel

/-- The worked pulse at its last sample, tick 5 063. -/
theorem test_pulse_ends : did (.channelSample ⟨1, 1⟩ 130)
    { sited with
      tb := { sited.tb with t := 5063 }
      lanes := Four.fill { laneOn with units := Four.fill { unitOn with
        baseline := 30720, overlong := 1
        detector := .pulse { onset := 5000, area := 173630, peak := 3000, clipped := false } 3 false } } } (fun t =>
    t.mail.reports = [{ channel := ⟨1, 1⟩, onset := 5000, ended := 5060, width := 60, peak := 3000, area := 173640
                        clipped := false }] &&
    (t.unit ⟨1, 1⟩).overlong = 0 && (t.unit ⟨1, 1⟩).detector = .quiet && (t.unit ⟨1, 1⟩).baseline = 30720) = true := by
  decide +kernel

/-- A unit whose pulse has reached w_max, after one overlong. -/
def overdueUnit : ChannelUnit :=
  { unitOn with overlong := 1, detector := .pulse { onset := 0, area := 9, peak := 9, clipped := false } 0 true }

theorem test_second_overlong_fails : did (.pulseOverlong ⟨0, 2⟩) (withUnits overdueUnit) (fun t =>
    (t.unit ⟨0, 2⟩).service = .failed && (t.unit ⟨0, 2⟩).detector = .quiet && (t.unit ⟨0, 2⟩).overlong = 2) = true := by
  decide +kernel

/-- Settings waiting for a DISABLED unit bring it into service, seeding (R34, R17). -/
def waitingUnit : ChannelUnit := { ChannelUnit.start with waiting := some { generation := 3, settings := settings, atOnce := true } }

theorem test_settings_are_adopted : did (.channelSettingsWaiting ⟨3, 3⟩) (withUnits waitingUnit) (fun t =>
    (t.unit ⟨3, 3⟩).service = .active && (t.unit ⟨3, 3⟩).seed && (t.unit ⟨3, 3⟩).generation = some 3) = true := by
  decide +kernel

/-- The delivery of a vehicle of lane 2 that channel 6 missed (worked sequence: a channel that stops seeing wheels). -/
def missed6 : Supervision :=
  { lane := 1, quality := .incomplete
    contributed := [[⟨1, 0⟩, ⟨1, 2⟩, ⟨1, 3⟩], [⟨1, 0⟩, ⟨1, 2⟩, ⟨1, 3⟩]] }

theorem test_eighth_miss_is_suspect : did .channelSupervision
    { withUnits { unitOn with miss := 7 } with mail := { State.reset.mail with toUnits := [missed6] } } (fun t =>
    (t.unit ⟨1, 1⟩).miss = 8 && (t.unit ⟨1, 1⟩).service = .suspect && (t.unit ⟨1, 0⟩).miss = 0 &&
    (t.unit ⟨0, 1⟩).miss = 7) = true := by
  decide +kernel

theorem test_channel_restore : did (.channelRestore 1 [16]) (withUnits { unitOn with service := .failed, miss := 32 }) (fun t =>
    (t.unit ⟨3, 3⟩).service = .active && (t.unit ⟨3, 3⟩).miss = 0 && (t.unit ⟨3, 2⟩).service = .failed) = true := by
  decide +kernel

/-- Settings that disable the channel, left waiting for a restored unit. -/
def disabling : WaitingSettings := { generation := 3, settings := { settings with enabled := false }, atOnce := true }

/-- They wait through the restore, for the seeding sample, on which the unit adopts them and goes DISABLED (R17, R30). -/
theorem test_restored_unit_waits_for_its_sample :
    did (.channelRestore 1 [1]) (withUnits { unitOn with service := .failed, waiting := some disabling }) (fun t =>
      (t.unit ⟨0, 0⟩).service = .active && t.deliveryDue ≠ some (.channelSettingsWaiting ⟨0, 0⟩)) = true ∧
    did (.channelSample ⟨0, 0⟩ 70)
      (withUnits { unitOn with seed := true, waiting := some { disabling with atOnce := false } }) (fun t =>
      (t.unit ⟨0, 0⟩).service = .disabled && (t.unit ⟨0, 0⟩).y = 70 && (t.unit ⟨0, 0⟩).waiting = none) = true := by
  decide +kernel

/-! ## Crossing Matcher -/

/-- Worked calculation of the default windows. -/
theorem test_default_windows : windowsOf LaneItem.standard 9990 = { dtMin := 432, dtMax := 21576 } := by decide +kernel

/-- Lane 2 of the worked sequence: channel 6 pairs with channel 5. -/
theorem test_pulses_pair : did .pulseReport
    { (sited.setHalfList 1 .one [pulse ⟨1, 0⟩ 10000 10040]) with
      mail := { State.reset.mail with reports := [pulse ⟨1, 1⟩ 10012 10050] } } (fun t =>
    (t.matcher 1).list1 = [] && (t.matcher 1).queue.map Crossing.onset = [10000]) = true := by
  decide +kernel

/-- Lane 2 row 1 right and lane 3 row 1 left within the pairing window form a straddle crossing of lane 2 once the hold has
passed (worked sequence: a vehicle changing lane). -/
def straddling : State :=
  (sited.setHalfList 1 .one [pulse ⟨1, 1⟩ 20000 20040]).setHalfList 2 .one [pulse ⟨2, 0⟩ 20008 20046]

theorem test_hold_expiry_straddles : did (.holdExpiry ⟨1, 1⟩) (clockAt 20241 straddling) (fun t =>
    (t.matcher 1).queue.map (fun c => (c.onset, c.straddle)) = [(20000, true)] && (t.matcher 2).list1 = []) = true := by
  decide +kernel

theorem test_hold_not_expired : did (.holdExpiry ⟨1, 1⟩) (clockAt 20240 straddling) (fun t => t = clockAt 20240 straddling) = true := by
  decide +kernel

/-- The worked orphan: row 2 at 40 200 against a pending crossing at 40 000 gives an axle at 38 851. -/
theorem test_orphan_time :
    let s := sited.setMatcher 0 { sited.matcher 0 with queue := [crossing 0 .one 40000], mark := some 38500 }
    ((s.formCrossing (crossing 0 .two 40200)).matcher 0).mark = some 38851 ∧
    ((s.formCrossing (crossing 0 .two 40200)).matcher 0).queue.length = 1 := by
  decide +kernel

/-- The pending crossing leaves at the first tick beyond Δt_max = 21 576 (R47). -/
theorem test_pending_expiry : did (.pendingExpiry 0)
    (clockAt 21577 (sited.setMatcher 0 { sited.matcher 0 with queue := [crossing 0 .one 0] })) (fun t =>
    (t.matcher 0).queue = [] && (t.asm 0).context.any fun c => c.axles.length = 1) = true := by
  decide +kernel

/-- The mark lapses when T − mark reaches 2^30 (R51). -/
theorem test_mark_lapses : did (.deliveryMarkLapse 2)
    (clockAt 1073741824 (sited.setMatcher 2 { sited.matcher 2 with mark := some 0 })) (fun t => (t.matcher 2).mark = none) = true := by
  decide +kernel

/-! ## Vehicle Assembler -/

/-- The fiftieth disagreeing sample changes the presence state (R77). -/
theorem test_presence_changes : did (.presenceSample 0 true) (sited.setAsm 0 { sited.asm 0 with presenceRun := 49 }) (fun t =>
    (t.asm 0).presence && (t.asm 0).presenceRun = 0) = true := by
  decide +kernel

/-- A lane with a loop, with an open vehicle of two axles 1 600 ticks apart. -/
def openLoop : State :=
  clockAt 5850 (sited.setAsm 0 { sited.asm 0 with
    working := some { LaneItem.standard with loop := true }, context := some (contextOf 0 [0, 1600] 2850) })

/-- G_c = 3 000 ticks after the last axle the vehicle closes (R87). -/
theorem test_gap_with_loop : did (.gapWithLoop 0) openLoop (fun t =>
    (t.asm 0).context = none && (t.asm 0).heldSpeed = 25000 && t.mail.toStore.map VehicleRecord.serial = [some 1] &&
    t.store.serial = some 2) = true := by
  decide +kernel

/-- G_n = 10 000 ticks on a lane without a loop (R88). -/
theorem test_gap_without_loop : did (.gapWithoutLoop 1)
    (clockAt 20000 (sited.setAsm 1 { sited.asm 1 with context := some (contextOf 1 [0, 1600] 10000) })) (fun t =>
    t.mail.toUnits.map Supervision.lane = [1]) = true := by
  decide +kernel

/-- The open limit of 30 s is counted in N_ref ticks (R89). -/
theorem test_timeout_marks : did (.timeout 1)
    (clockAt 309700 (sited.setAsm 1 { sited.asm 1 with context := some (contextOf 1 [0, 1600] 10000) })) (fun t =>
    t.mail.toTally.map (fun r => r.conditions.timeout) = [true]) = true := by
  decide +kernel

/-- The lorry and the car: the car's axle is 13 230 mm behind and splits (worked sequence of 5.5). -/
theorem test_spacing_split :
    let s := clockAt 108820 ({ sited with tb := { sited.tb with nRef := 10000 } }.setAsm 0 { sited.asm 0 with
      working := some { LaneItem.standard with loop := true }, presence := true
      context := some (contextOf 0 [100000, 101600, 102120] 103370) })
    let t := s.takeAxle 0 { axleAt 0 107520 24000 with ownSpeed := some 24000 }
    t.mail.toStore.map (fun r => r.conditions.tailgate) = [true] ∧ (t.asm 0).heldSpeed = 25000 := by
  decide +kernel

/-! ## Weighing, classing and checks (worked cases A to C, E) -/

theorem test_speed_factor : speedFactor [(33333, 16220), (47222, 16056)] 44400 = 16089 ∧
    speedFactor [(33333, 16220), (47222, 16056)] 50000 = 16056 := by
  decide +kernel

theorem test_temp_factor : tempFactor [16384, 16384, 16384, 16384, 16384, 15892, 15565, 16384, 16384] 315 = 15843 := by
  decide +kernel

theorem test_wheel_at_normal_values :
    (weighWheel { pulse ⟨1, 0⟩ 0 40 with area := 1200000 } 44400 9990 12600 16089 15843 16548).load = 3841 ∧
    (weighWheel { pulse ⟨1, 3⟩ 0 40 with area := 1100000 } 44400 9990 13400 16089 15843 16548).load = 3745 := by
  decide +kernel

theorem test_wheel_beyond_the_limit :
    (weighWheel { pulse ⟨1, 0⟩ 0 40 with area := 11500000 } 44400 9990 12600 16089 15843 16548).load = 32767 ∧
    (weighWheel { pulse ⟨1, 0⟩ 0 40 with area := 11500000 } 44400 9990 12600 16089 15843 16548).offscale = true := by
  decide +kernel

/-! ## Temperature -/

theorem test_gate_frequency : frequency 12345 9990 10000 = 123327 ∧ convert [(110000, 150), (130000, 350)] 123327 = some 283 ∧
    smoothReading 270 283 3 = 272 := by
  decide +kernel

/-- A GOOD PRIMARY probe with the worked table and smoothed value 270. -/
def probeOn : Probe :=
  { Probe.start with
    role := .primary, points := [(110000, 150), (130000, 350)], state := .good, smoothed := some 270, edges := 12345 }

/-- The device with that probe as its first and its gate at the end. -/
def gating : State :=
  { clockAt 10000 sited with temp := { sited.temp with
    probes := { sited.temp.probes with a := probeOn }
    gate := some { probe := 0, start := 0, length := 10000, base := 0 } } }

theorem test_gate_end : did .gateEnd gating (fun t =>
    (t.probe 0).smoothed = some 272 && t.temp.tw = 272 && t.temp.selection = .primary &&
    t.temp.gate = some { probe := 0, start := 10000, length := 10000, base := 12345 }) = true := by
  decide +kernel

theorem test_probe_edge : did (.probeEdge 2) State.reset (fun t => (t.probe 2).edges = 1) = true := by decide +kernel

theorem test_probe_restore : did (.probeRestore 1 [1])
    { sited with temp := { sited.temp with probes := { sited.temp.probes with a := { probeOn with state := .failed } } } } (fun t =>
    (t.probe 0).state = .seeding && (t.probe 0).smoothed = none && lastReply t = [0x00]) = true := by
  decide +kernel

/-- A set whose first probe is PRIMARY. -/
def probed : TableSet :=
  { TableSet.standard with
    probes := { TableSet.standard.probes with a := { role := .primary, points := [(110000, 150), (130000, 350)] } } }

theorem test_probe_settings_taken : did .probeSettingsTake { sited with mail := { sited.mail with tempOffers := [probed] } } (fun t =>
    (t.probe 0).state = .seeding && t.temp.gate.any (fun g => g.probe = 0) && t.mail.tempOffers = []) = true := by
  decide +kernel

/-! ## Drift -/

/-- The worked policy. -/
def policy : DriftItem := { refClass := 5, target := 6000, window := 30, batch := 8, gain := 64, maxStep := 20 }

/-- Record 13 of the small batch: first axle 5 810 after seven feeds with Σ = 41 630 and Kd = 16 400. -/
def thirteenth : State :=
  { (sited.setDriftBand 0 4 { kd := 16400, sum := 41630, n := 7, rejected := 1 }) with
    mail := { sited.mail with toDrift := [record] } }

theorem test_batch_updates : did .driftFeed { thirteenth with drift := { thirteenth.drift with policy := policy } } (fun t =>
    t.driftBand 0 4 = { kd := 16448, sum := 0, n := 0, rejected := 1 }) = true := by
  decide +kernel

theorem test_drift_clamps : (DriftBand.update { kd := 20400, sum := 160000, n := 32, rejected := 0 }
    { policy with batch := 32, maxStep := 5 }).kd = 20480 := by
  decide +kernel

theorem test_drift_policy_resets : did .driftPolicyTake
    { thirteenth with mail := { sited.mail with driftOffers := [{ policy := policy, reset := true }] } } (fun t =>
    t.driftBand 0 4 = DriftBand.start && t.drift.policy.refClass = 5) = true := by
  decide +kernel

theorem test_drift_set_and_get : did (.driftSet 1 [1, 4, 0x00, 0x40]) thirteenth (fun t =>
    t.driftBand 0 4 = { kd := 16384, sum := 0, n := 0, rejected := 1 } && lastReply t = [0x00]) = true ∧
    did (.driftGet 1 [1]) thirteenth (fun t => (lastReply t).length = 42 && field (lastReply t) 21 2 = 16400) = true := by
  decide +kernel

theorem test_drift_freeze : did (.driftFreeze 1 [4, 1]) sited (fun t => (t.drift.lanes.get 3).frozen) = true := by decide +kernel

/-! ## Table Store -/

theorem test_stage_open_defaults : did (.stageOpen 1 []) State.reset (fun t =>
    lastReply t = [0, 0, 0] && t.tables.staging = some { set := TableSet.standard, source := none }) = true := by
  decide +kernel

/-- A SPEEDTAB of lane 3 with the single point (90 km/h, 16 300). -/
def onePoint : Item := .speedTab 2 [(90, 16300)]

theorem test_stage_put : did (.stagePut 1 onePoint.bytes) (sited.setStaging (some { set := TableSet.standard, source := none })) (fun t =>
    lastReply t = [0x00] && t.tables.staging.any fun x => x.set.speedTabs.get 2 = [(90, 16300)]) = true := by
  decide +kernel

theorem test_stage_discard : did (.stageDiscard 1 []) (sited.setStaging (some { set := TableSet.standard, source := none })) (fun t =>
    t.tables.staging = none) = true := by
  decide +kernel

/-- Commit 1 of the worked validation: INVALID_ITEM, SPEEDTAB(3), check 1. -/
theorem test_commit_names_the_item : did (.stageCommit 1 [0])
    (sited.setStaging (some { set := TableSet.standard.put onePoint, source := none })) (fun t =>
    lastReply t = [0x07, 3, 3, 1]) = true := by
  decide +kernel

theorem test_commit_succeeds : did (.stageCommit 1 [1])
    (State.reset.setStaging (some { set := TableSet.standard, source := none })) (fun t =>
    lastReply t = [0, 1, 0, 0, 0] && (t.asm 2).service = .inService && (t.asm 2).heldSpeed = 22222) = true := by
  decide +kernel

theorem test_table_read : did (.tableRead 1 [0, 0]) sited (fun t => (lastReply t).take 3 = [0, 0, 0]) = true := by
  decide +kernel

/-! ## Records and tallies -/

/-- The device with the record on its way everywhere. -/
def closing : State :=
  { sited with mail := { sited.mail with toStore := [record], toTally := [record], toCapture := [{ record := record, opened := none, laneOut := false }], drops := [3] } }

theorem test_record_joins : did .recordStoreDelivery closing (fun t => t.store.held = [record] && t.mail.toStore = []) = true := by
  decide +kernel

/-- Speed bin floor(1 598 / 100) = 15, GVW bin floor(12 010 / 5 000) = 2, axle-load bins 5 and 6. -/
theorem test_tally_counts : did .tallyRecord closing (fun t =>
    t.tally.active.a.speeds[15]? = some 1 && t.tally.active.a.gvws[2]? = some 1 && t.tally.active.a.axleLoads[5]? = some 1 &&
    t.tally.active.a.classes[5]? = some 1 && t.tally.active.a.qualities[0]? = some 1) = true := by
  decide +kernel

theorem test_tally_drop : did .tallyDrop closing (fun t => t.tally.active.d.dropped = 1 && t.mail.drops = []) = true := by
  decide +kernel

/-- The device holding the record. -/
def holding : State := { sited with store := { sited.store with held := [record], serial := some 2, armed := false } }

theorem test_record_fetch : did (.recordFetch 1 [0, 0, 0, 0, 0, 0, 4]) holding (fun t => (lastReply t).head? = some 0) = true := by
  decide +kernel

theorem test_record_release : did (.recordRelease 1 [1, 0, 0, 0, 0, 0]) holding (fun t =>
    t.store.held = [] && t.store.armed && lastReply t = [0, 0, 0, 0, 0, 0, 0, 0, 0]) = true := by
  decide +kernel

theorem test_tally_fetch_and_release :
    did (.tallyFetch 1 []) sited (fun t => lastReply t = [0x06]) = true ∧
    did (.tallyRelease 1 []) { sited with tally := { sited.tally with queue := [sited.tallyEntry] } } (fun t =>
      t.tally.queue = [] && lastReply t = [0, 0]) = true := by
  decide +kernel

theorem test_site_settings_taken : did .siteSettingsTake
    { holding with
      store := { holding.store with armed := true }
      mail := { sited.mail with siteOffers := [{ SiteItem.standard with threshold := 1 }] } } (fun t =>
    t.store.armed = false && t.link.outgoing.getLast? = some (.notice (.recordsReady 1 (some 1)))) = true := by
  decide +kernel

/-! ## Capture -/

theorem test_capture_arm : did (.captureArm 1 [2, 4, 0, 0]) (clockAt 1000000 sited) (fun t =>
    t.capture.state = .armed && t.capture.nextWrite = 1000000 && lastReply t = [0]) = true := by
  decide +kernel

/-- The unit armed at 1 000 000 on lane 2 with d = 4. -/
def armed : State := { clockAt 1000000 sited with capture := CaptureUnit.arm 1 4 .next 1000000 }

theorem test_capture_write : did .captureWrite armed (fun t =>
    t.capture.buffer.map SampleSet.tick = [1000000] && t.capture.nextWrite = 1000004) = true := by
  decide +kernel

/-- Recording in lane 1 with two sets from the start on. -/
def recording : State :=
  { closing with capture := { CaptureUnit.arm 0 4 .next 0 with
    state := .recording, startTick := some 4
    buffer := [{ tick := 0, ys := Four.fill 0 }, { tick := 4, ys := Four.fill 1 }, { tick := 8, ys := Four.fill 2 }] } }

theorem test_capture_is_held : did .captureCloseTest recording (fun t =>
    t.capture.state = .held && t.capture.description = some ⟨some 1, 0, some 4, 4, 2, false⟩ &&
    t.mail.toStore.map (fun r => r.conditions.captured) = [true]) = true := by
  decide +kernel

/-- The vehicle that a split opens is recorded after the test of the one it closed has re-armed the unit (R176). -/
theorem test_split_open_waits :
    let s := { recording with capture := { recording.capture with trigger := some .flagged } }
    (s.captureOpen 0 4).capture.state = .recording ∧
    did .captureCloseTest (s.captureOpen 0 2164) (fun t =>
      t.capture.state = .recording && t.capture.startTick = some 4 && t.mail.toCapture = []) = true ∧
    did .captureCloseTest s (fun t => t.capture.state = .armed) = true := by
  decide +kernel

/-- A capture of two sets, held. -/
def captured : State :=
  { sited with capture := { recording.capture with
    state := .held, buffer := recording.capture.buffer.tail, description := some ⟨some 1, 0, some 4, 4, 2, false⟩ } }

theorem test_capture_fetch_and_release :
    did (.captureFetch 1 [2, 0, 1]) captured (fun t => lastReply t = [0x04]) = true ∧
    did (.captureRelease 1 []) captured (fun t => t.capture = CaptureUnit.start && lastReply t = [0]) = true := by
  decide +kernel

/-! ## Message Link -/

theorem test_sync_byte_opens_a_frame : did (.inboundByte 0x5C false) State.reset (fun t => t.link.rx = .header []) = true := by
  decide +kernel

theorem test_gap_discards : did .frameGapExpiry
    { clockAt 51 State.reset with link := { State.reset.link with rx := .header [1] } } (fun t =>
    t.link.rx = .hunt && t.link.badFrames = 1) = true := by
  decide +kernel

theorem test_transmit_end_begins_the_next : did .transmitEnd
    { State.reset with link := { State.reset.link with
      sending := some (.notice (.started true false)), outgoing := [.notice (.tallyClosed 1)] } } (fun t =>
    t.link.sending = some (.notice (.tallyClosed 1)) && t.link.outgoing = []) = true := by
  decide +kernel

theorem test_unknown_request : did (.unknownRequest 0x15 1 []) State.reset (fun t => lastReply t = [0x03]) = true := by
  decide +kernel

theorem test_status : did (.status 1 []) { sited with tb := { sited.tb with rejectedEdges := 2 } } (fun t =>
    field (lastReply t) 19 2 = 2 && t.tb.rejectedEdges = 0 && field (lastReply t) 2 2 = 9990) = true := by
  decide +kernel

theorem test_live_read : did (.liveRead 1 []) sited (fun t => (lastReply t).length = 477 && t = { sited with link := t.link }) = true := by
  decide +kernel

/-! ## Witnesses: the hypotheses of each statement, met at boundary values -/

theorem witness_StepRunsFrontCommand :
    ({ State.reset with pending := [.gateEnd, .transmitEnd] } : State).pending = .gateEnd :: [.transmitEnd] := by
  decide +kernel

/-- A device in search of its reference, n ticks after an edge at 0. -/
def searchAt (n : Nat) (run : List Nat) : State :=
  { State.reset with tb := { State.reset.tb with t := BitVec.ofNat 32 n, tLast := some 0, run := run } }

theorem witness_SearchingEdge_first_edges :
    State.reset.tb.refHigh = false ∧ State.reset.tb.tLast = none ∧
    ({ State.reset.tb with refHigh := true } : Timebase).refHigh = true := by
  decide +kernel

theorem witness_SearchingEdge_measured_edges :
    (searchAt 9799 []).tb.lock ≠ .locked ∧ (searchAt 9799 []).tb.refHigh = false ∧ (searchAt 9799 []).tb.tLast = some 0 ∧
    ticksSince (searchAt 9799 []).tb.t 0 = 9799 ∧ ticksSince (searchAt 10201 []).tb.t 0 = 10201 ∧
    ticksSince (searchAt 9800 []).tb.t 0 = 9800 ∧ (searchAt 9800 []).tb.run = [] ∧
    ticksSince (searchAt 10200 [10195]).tb.t 0 = 10200 ∧ (searchAt 10200 [10195]).tb.run.getLast? = some 10195 ∧
    4 < ((10200 : Int) - 10195).natAbs ∧ ((10200 : Int) - 10196).natAbs ≤ 4 ∧ (searchAt 10200 [10196]).tb.run = [10196] ∧
    (searchAt 10200 [10000, 10196]).tb.run = [10000, 10196] := by
  decide +kernel

/-- A LOCKED device with N_ref = 9 990, n ticks after an edge at 0. -/
def lockedAt (n rejects : Nat) : State :=
  { State.reset with tb := { State.reset.tb with
    t := BitVec.ofNat 32 n, tLast := some 0, lock := .locked, nRef := 9990, rejectRun := rejects } }

theorem witness_LockedEdge :
    (lockedAt 9986 2).tb.lock = .locked ∧ (lockedAt 9986 2).tb.refHigh = false ∧ (lockedAt 9986 2).tb.tLast = some 0 ∧
    ticksSince (lockedAt 9986 2).tb.t 0 = 9986 ∧ ((9986 : Int) - (lockedAt 9986 2).tb.nRef).natAbs ≤ 4 ∧
    4 < ((9985 : Int) - (lockedAt 9985 1).tb.nRef).natAbs ∧ ticksSince (lockedAt 9985 1).tb.t 0 = 9985 ∧
    (lockedAt 9985 1).tb.rejectRun < 2 ∧ 2 ≤ (lockedAt 10201 2).tb.rejectRun ∧ 10200 < ticksSince (lockedAt 10201 2).tb.t 0 := by
  decide +kernel

theorem witness_TimebaseRunsWithoutEdges :
    (lockedAt 15000 0).tb.lock = .locked ∧ (lockedAt 15000 0).tb.tLast = some 0 ∧ 15000 ≤ ticksSince (lockedAt 15000 0).tb.t 0 ∧
    (∀ past, (lockedAt 14999 0).tb.tLast = some past → ticksSince (lockedAt 14999 0).tb.t past < 15000) ∧
    (searchAt 15000 []).tb.lock ≠ .locked ∧
    (lockedAt 9990 0).tb.nRef ≤ ticksSince (lockedAt 9990 0).tb.t (lockedAt 9990 0).tb.mark ∧
    ticksSince (lockedAt 9989 0).tb.t (lockedAt 9989 0).tb.mark < (lockedAt 9989 0).tb.nRef := by
  refine ⟨by decide +kernel, by decide +kernel, by decide +kernel, fun past h => ?_, by decide +kernel⟩
  cases h; decide +kernel

/-- A request that waits to be served. -/
def waitingRequest : Request := { kind := 1, tag := 7, body := [], served := false }

theorem witness_TimebaseRunsWithoutEdges_empty_queue :
    let offered : State := { sited with mail := { sited.mail with siteOffers := [SiteItem.standard] } }
    let asked : State := { sited with link := { sited.link with requests := [waitingRequest] } }
    let writing : State := { sited with capture := CaptureUnit.arm 1 4 .next 0 }
    offered.pending = [] ∧ offered.deliveryDue = some .siteSettingsTake ∧ (searchAt 10000 []).pending = [] ∧
    (searchAt 10000 []).deliveryDue = none ∧ (searchAt 10000 []).expiryDue = some .freeRunningBoundary ∧
    asked.pending = [] ∧ asked.deliveryDue = none ∧ asked.expiryDue = none ∧
    asked.link.requests = [] ++ waitingRequest :: [] ∧ writing.pending = [] ∧ writing.deliveryDue = none ∧
    writing.expiryDue = none ∧ writing.link.requests = [] ∧ writing.capture.state = .armed ∧
    writing.capture.nextWrite = writing.tb.t ∧
    State.reset.pending = [] ∧ State.reset.deliveryDue = none ∧ State.reset.expiryDue = none ∧
    State.reset.link.requests = [] ∧ State.reset.capture.state = .idle ∧ State.reset.link.sending = none ∧
    State.reset.link.outgoing = .notice (.started true false) :: [] ∧ sited.pending = [] ∧ sited.deliveryDue = none ∧
    sited.expiryDue = none ∧ sited.link.requests = [] ∧ sited.capture.state = .idle ∧ sited.link.outgoing = [] := by
  decide +kernel

theorem witness_TimeSetReplacesSeconds : (bodyOf 3).length ≠ 4 ∧ (bodyOf 5).length ≠ 4 := by decide

theorem witness_RecordIsStamped :
    let ctx := contextOf 0 [980000, 981600] 982850
    let tb : Timebase := { State.reset.tb with seconds := 7200, mark := 1000500, nRef := 9990 }
    (∃ x xs, ctx.axles = x :: xs ∧ 2 ^ 31 ≤ ticksSince x.axle.time tb.mark ∧
      ticksSince x.axle.time ({ tb with mark := 980000 } : Timebase).mark < 2 ^ 31) ∧ 0 < tb.nRef ∧
    (ctx.axles.filterMap fun y => y.axle.ownSpeed) ≠ [] ∧
    ([{ axle := { axleAt 0 0 0 with ownSpeed := none }, eff := 9, spacing := none }].filterMap
      fun y : ContextAxle => y.axle.ownSpeed) = [] ∧
    (let r := completeRecord tb (some 7) 2 ctx true false
     r.conditions.tailgate = true ∧ r.conditions.tempHeld = true ∧ r.speed = some 900 ∧ r.lane = 2) := by
  refine ⟨⟨_, _, rfl, ?_, ?_⟩, ?_, ?_, ?_, ?_⟩ <;> decide +kernel

theorem witness_ConventionsOfRoundingAndOrder_halves :
    (2 * 3 : Int) = (2 * ((1 : Nat) : Int) + 1) * (2 : Nat) ∧ (2 * -3 : Int) = -((2 * ((1 : Nat) : Int) + 1) * (2 : Nat)) := by
  decide

theorem witness_ConventionsOfRoundingAndOrder_ticks :
    (∀ e ∈ [(5 : Tick), 7], ticksSince 7 e < 2 ^ 31) ∧ (∀ e ∈ [(8 : Tick), 0x80000007], 2 ^ 31 ≤ ticksSince 7 e) := by
  refine ⟨List.forall_mem_cons.2 ⟨?_, List.forall_mem_singleton.2 ?_⟩, List.forall_mem_cons.2 ⟨?_, List.forall_mem_singleton.2 ?_⟩⟩ <;>
  decide +kernel

theorem witness_SampleOutsideAnAttempt :
    (State.reset.unit ⟨0, 0⟩).detector = .quiet ∧ (State.reset.unit ⟨0, 0⟩).running = false ∧
    (sited.unit ⟨0, 0⟩).running = true ∧ (sited.unit ⟨0, 0⟩).settings = some settings ∧ (sited.unit ⟨0, 0⟩).detector = .quiet ∧
    (sited.unit ⟨0, 0⟩).seed = false ∧ ((withUnits { unitOn with seed := true }).unit ⟨0, 0⟩).seed = true ∧
    0 + roundInt ((400 : Code).toInt - 0) (2 ^ settings.k) - roundInt 0 256 = settings.thOn ∧
    settings.thOn < 0 + roundInt ((401 : Code).toInt - 0) (2 ^ settings.k) - roundInt 0 256 := by
  decide +kernel

/-- An attempt that began at tick 0. -/
def attempt : Attempt := { onset := 0, area := 500, peak := 500, clipped := false }

theorem witness_SampleInAnAttempt :
    let onset : ChannelUnit := { unitOn with detector := .onset attempt 2 }
    let inPulse : ChannelUnit := { unitOn with detector := .pulse attempt 3 false }
    onset.running = true ∧ onset.settings = some settings ∧ onset.seed = false ∧ onset.detector = .onset attempt 2 ∧
    settings.cOn ≤ 2 + 1 ∧ 1 + 1 < settings.cOn ∧ inPulse.detector = .pulse attempt 3 false ∧ settings.cOff ≤ 3 + 1 ∧
    2 + 1 < settings.cOff ∧ ticksSince (18 - BitVec.ofNat 32 (settings.cOff - 1)) attempt.onset = settings.wMin ∧
    ticksSince (17 - BitVec.ofNat 32 (settings.cOff - 1)) attempt.onset < settings.wMin ∧
    ({ unitOn with detector := .held 3 } : ChannelUnit).detector = .held 3 := by
  decide +kernel

theorem witness_OverlongPulseHoldsThenFails :
    overdueUnit.overdue = true ∧ overdueUnit.overlong = 1 ∧ overdueUnit.running = true ∧
    ({ overdueUnit with overlong := 0 } : ChannelUnit).overdue = true ∧ unitOn.overdue = false := by
  decide +kernel

theorem witness_WaitingSettingsAdopted :
    ((withUnits waitingUnit).unit ⟨0, 0⟩).detector = .quiet ∧
    ((withUnits waitingUnit).unit ⟨0, 0⟩).waiting = some { generation := 3, settings := settings, atOnce := true } ∧
    (sited.unit ⟨0, 0⟩).waiting = none ∧
    ({ unitOn with waiting := some { disabling with atOnce := false } } : ChannelUnit).waiting =
      some { disabling with atOnce := false } ∧
    overdueUnit.detector ≠ .quiet ∧ (sited.unit ⟨0, 0⟩).running = true ∧ (sited.unit ⟨0, 0⟩).settings.isSome = true ∧
    did (.channelSample ⟨0, 0⟩ 1) sited (fun t =>
      (t.unit ⟨0, 0⟩).running && (t.unit ⟨0, 0⟩).detector = .quiet) = true := by
  decide +kernel

theorem witness_SupervisionJudgesUnits :
    let s := { withUnits { unitOn with miss := 31 } with mail := { State.reset.mail with toUnits := [missed6] } }
    s.mail.toUnits = missed6 :: [] ∧ (⟨0, 1⟩ : ChannelId).lane ≠ missed6.lane ∧
    did .channelSupervision s (fun t =>
      (t.unit ⟨1, 1⟩).service = .failed && t.link = unitNotices s t (fours.map fun p => ⟨missed6.lane, p⟩) &&
      t.link ≠ s.link) = true := by
  decide +kernel

theorem witness_RestoreRequests :
    let s := withUnits { unitOn with service := .failed }
    let p := { sited with temp := { sited.temp with probes := { sited.temp.probes with a := { probeOn with state := .failed } } } }
    (s.unit ⟨0, 0⟩).service = .failed ∧ (sited.unit ⟨0, 0⟩).service ≠ .failed ∧ (17 : Byte).toNat = 17 ∧ (0 : Byte).toNat = 0 ∧
    (p.probe 0).state = .failed ∧ (sited.probe 0).state ≠ .failed ∧ 4 < (5 : Byte).toNat := by
  decide +kernel

theorem witness_WindowsBracketSpeeds : 0 < ({ LaneItem.standard with vLo := 1 } : LaneItem).vLo ∧ 0 < LaneItem.standard.vHi := by
  decide

theorem witness_PulsePairsOrWaits :
    let r := pulse ⟨1, 1⟩ 10060 10100
    let near := pulse ⟨1, 0⟩ 10000 10040
    let far := pulse ⟨1, 0⟩ 9999 10040
    ({ sited.mail with reports := [r] } : Mail).reports = r :: [] ∧ (State.reset.asm 1).service = .out ∧
    (sited.asm 1).service = .inService ∧ (sited.asm 1).working = some LaneItem.standard ∧
    near.channel.strip.val % 2 ≠ r.channel.strip.val % 2 ∧ ticksSince r.onset near.onset = LaneItem.standard.pairWindow ∧
    LaneItem.standard.pairWindow < ticksSince r.onset far.onset ∧ LaneItem.standard.pairWindow < ticksSince far.onset r.onset ∧
    ((sited.setHalfList 1 .one [far, far, far, far]).matcher 1).list .one = far :: [far, far, far] ∧
    ((sited.setHalfList 1 .one [far, far, far]).matcher 1).list .one = [far, far, far] := by
  decide +kernel

theorem witness_ResolvedEntryStraddlesOrStandsAlone :
    let right := pulse ⟨1, 1⟩ 20000 20040
    let left := pulse ⟨2, 0⟩ 20060 20100
    (2 : LaneId).val = (1 : LaneId).val + 1 ∧ (sited.asm 1).working = some LaneItem.standard ∧ right.channel.strip.val % 2 = 1 ∧
    ((sited.setHalfList 2 .one [left]).matcher 2).list .one = [] ++ left :: [] ∧ left.channel.strip.val % 2 = 0 ∧
    ticksSince left.onset right.onset = LaneItem.standard.pairWindow ∧
    ((sited.setHalfList 1 .one [right]).matcher 1).list .one = [] ++ right :: [] ∧
    (∀ f ∈ (sited.matcher 2).list .one, f.channel.strip.val % 2 ≠ right.channel.strip.val % 2 → False) := by
  decide +kernel

/-- Lane 1 with row-1 crossings pending at the given onsets. -/
def queued (onsets : List Nat) : State :=
  sited.setMatcher 0 { sited.matcher 0 with queue := onsets.map (crossing 0 .one) }

theorem witness_CrossingQueuesOrMatches :
    (crossing 0 .one 9).row = .one ∧ (crossing 0 .two 432).row = .two ∧ (sited.matcher 0).queue.length < 8 ∧
    ((queued [1, 2, 3, 4, 5, 6, 7]).matcher 0).queue.length = 7 ∧
    ((queued [1, 2, 3, 4, 5, 6, 7, 8]).matcher 0).queue =
      crossing 0 .one 1 :: [2, 3, 4, 5, 6, 7, 8].map (crossing 0 .one) ∧
    tickBefore (crossing 0 .one 0).onset (crossing 0 .one 1).onset = true ∧
    tickBefore (crossing 0 .one 1).onset (crossing 0 .one 1).onset = false ∧
    (sited.asm 0).working = some LaneItem.standard ∧ (sited.matcher 0).windows = some (windowsOf LaneItem.standard 9990) ∧
    ((queued [0]).matcher 0).queue = crossing 0 .one 0 :: [] ∧ (sited.matcher 0).queue = [] ∧
    ticksSince (crossing 0 .two 432).onset (crossing 0 .one 0).onset = (windowsOf LaneItem.standard 9990).dtMin ∧
    ticksSince (crossing 0 .two 431).onset (crossing 0 .one 0).onset < (windowsOf LaneItem.standard 9990).dtMin ∧
    2 ^ 31 ≤ ticksSince (crossing 0 .two 0).onset (crossing 0 .one 1).onset := by
  decide +kernel

theorem witness_WaitingEntriesExpire :
    let w := windowsOf LaneItem.standard 9990
    let e := pulse ⟨1, 1⟩ 20000 20040
    (straddling.asm 1).working = some LaneItem.standard ∧ (straddling.matcher 1).list .one = [] ++ e :: [] ∧
    e.channel.strip.val % 2 = (⟨1, 1⟩ : ChannelId).strip.val % 2 ∧
    LaneItem.standard.hold < ticksSince (clockAt 20241 straddling).tb.t e.ended ∧
    ticksSince (clockAt 20240 straddling).tb.t e.ended ≤ LaneItem.standard.hold ∧ (sited.matcher 1).list .one = [] ∧
    ((queued [0]).matcher 0).windows = some w ∧ ((queued [0]).matcher 0).queue = crossing 0 .one 0 :: [] ∧
    w.dtMax < ticksSince (clockAt 21577 (queued [0])).tb.t (crossing 0 .one 0).onset ∧
    ticksSince (clockAt 21576 (queued [0])).tb.t (crossing 0 .one 0).onset ≤ w.dtMax ∧ (sited.matcher 0).queue = [] := by
  decide +kernel

theorem witness_AxlesLeaveInTimeOrder :
    let s := sited.setMatcher 2 { sited.matcher 2 with mark := some 0 }
    (s.matcher 2).mark = some 0 ∧ 2 ^ 30 ≤ ticksSince (clockAt (2 ^ 30) s).tb.t 0 ∧
    ticksSince (clockAt (2 ^ 30 - 1) s).tb.t 0 < 2 ^ 30 ∧ (sited.matcher 2).mark = none := by
  decide +kernel

theorem witness_AxleOpensJoinsOrSplits :
    let s := sited.setAsm 0 { sited.asm 0 with context := some (contextOf 0 [0] 1250) }
    let last : ContextAxle := { axle := axleAt 0 0 25000, eff := 25000, spacing := none }
    (sited.asm 0).context = none ∧ (sited.asm 0).adopted = some gen1 ∧ (s.asm 0).context = some (contextOf 0 [0] 1250) ∧
    (s.asm 0).working = some LaneItem.standard ∧ (contextOf 0 [0] 1250).axles = [] ++ [last] ∧
    roundNat (roundNat (25000 + 25000) 2 * ticksSince 4795 0) 9990 ≤ LaneItem.standard.sMax ∧
    LaneItem.standard.sMax < roundNat (roundNat (25000 + 25000) 2 * ticksSince 4796 0) 9990 ∧
    13 ≤ (contextOf 0 (List.replicate 13 0) 0).axles.length ∧ (contextOf 0 (List.replicate 12 0) 0).axles.length < 13 ∧
    (s.asm 0).service = .inService ∧
    (((s.close 0 (contextOf 0 [0] 1250) false false).adoptAtSplit 0).asm 0).adopted = some gen1 := by
  refine ⟨?_, ?_, ?_, ?_, ?_, ?_, ?_, ?_, ?_, ?_, ?_⟩ <;> decide +kernel

theorem witness_SilentVehicleCloses :
    let ctx := contextOf 0 [0, 1600] 2850
    let plain := sited.setAsm 0 { sited.asm 0 with context := some ctx }
    (openLoop.asm 0).context = some ctx ∧ (openLoop.asm 0).working = some { LaneItem.standard with loop := true } ∧
    (openLoop.asm 0).presence = false ∧ (openLoop.matcher 0).queue = [] ∧
    LaneItem.standard.gapLoop = ticksSince openLoop.tb.t ctx.lastTick ∧
    ticksSince (clockAt 5849 openLoop).tb.t ctx.lastTick < LaneItem.standard.gapLoop ∧
    (plain.asm 0).working = some LaneItem.standard ∧ (plain.asm 0).context = some ctx ∧
    LaneItem.standard.gapNoLoop = ticksSince (clockAt 12850 plain).tb.t ctx.lastTick ∧
    LaneItem.standard.openLimit * plain.tb.nRef = ticksSince (clockAt 302550 plain).tb.t ctx.openTick := by
  decide +kernel

theorem witness_PresenceIsDebounced :
    let s := sited.setAsm 0 { sited.asm 0 with presenceRun := 49 }
    (s.asm 0).presence = false ∧ true ≠ (s.asm 0).presence ∧ 49 ≤ (s.asm 0).presenceRun ∧
    ({ s.asm 0 with presenceRun := 48 } : Assembler).presenceRun < 49 := by
  decide +kernel

/-- The device with generation 2 active and lane 4 holding an open vehicle of generation 1. -/
def newer : State :=
  { (sited.setAsm 3 { sited.asm 3 with context := some (contextOf 3 [0] 1250) }) with
    tables := { staging := none, active := some (TableSet.standard.generation 2), retiring := some gen1, counter := 2 } }

theorem witness_QuietLaneAdopts :
    newer.tables.active = some (TableSet.standard.generation 2) ∧ (newer.asm 0).context = none ∧ (newer.matcher 0).list1 = [] ∧
    (newer.matcher 0).list2 = [] ∧ (newer.matcher 0).queue = [] ∧ newer.mail.reports = [] ∧
    (newer.asm 0).adopted = some gen1 ∧ gen1.number ≠ (TableSet.standard.generation 2).number ∧
    newer.tables.retiring = some gen1 ∧ (newer.asm 3).context ≠ none ∧ sited.tables.active = some gen1 ∧
    sited.tables.retiring = none := by
  decide +kernel

/-- Recording in lane 1, which is quiet with its record on its way, when a generation that disables it is active. -/
def leaving (trigger : Trigger) : State :=
  { recording with
    capture := { recording.capture with trigger := some trigger }
    tables := { recording.tables with
      active := some ((TableSet.standard.put (.lane 0 { LaneItem.standard with enabled := false })).generation 2) } }

/-- The closed record is tested before the unit learns that its lane went OUT (R176, R178): the capture is held and kept, or the
unit, ARMED by the test, is IDLE; with no record on its way the unit is IDLE at once. -/
theorem test_lane_out_waits_for_record :
    (let s := (leaving .next).adoptIfQuiet 0
     (s.asm 0).service = .out ∧ s.capture = recording.capture ∧
       s.mail.toCapture = { record := record, opened := none, laneOut := true } :: [] ∧
       did .captureCloseTest s (fun t => t.capture.state = .held && t.mail.toCapture = []) = true) ∧
    did .captureCloseTest ((leaving .flagged).adoptIfQuiet 0) (fun t => t.capture = CaptureUnit.start) = true ∧
    (let s := { leaving .next with mail := sited.mail }
     s.mail.toCapture = [] ∧ (s.adoptIfQuiet 0).capture = CaptureUnit.start) := by
  decide +kernel

/-- A vehicle with an axle of every row mark. -/
def mixed : Context :=
  let c := contextOf 0 [0, 1600, 3200] 4450
  let row1 : Axle → Axle := fun a => { a with row2 := none, ownSpeed := none }
  let row2 : Axle → Axle := fun a => { a with row1 := none, ownSpeed := none }
  let of : Axle → ContextAxle := fun a => { axle := a, eff := 25000, spacing := none }
  { c with axles := [of (axleAt 0 0 25000), of (row1 (axleAt 0 1600 25000)), of (row2 (axleAt 0 3200 25000))] }

theorem witness_AxlesAreWeighed :
    (mixed.axles[0]?.map fun x => (x.axle.row1, x.axle.row2)) = some (some (crossing 0 .one 0), some (crossing 0 .two 675)) ∧
    (mixed.axles[1]?.map fun x => (x.axle.row1, x.axle.row2)) = some (some (crossing 0 .one 1600), none) ∧
    (mixed.axles[2]?.map fun x => (x.axle.row1, x.axle.row2)) = some (none, some (crossing 0 .two 3875)) ∧
    (let missed : Crossing := { crossing 0 .one 0 with left := none }
     missed.left = none ∧ missed.missingSide = false ∧ ({ missed with missingSide := true } : Crossing).missingSide = true ∧
     (crossing 0 .one 0).left ≠ none ∧ (crossing 0 .one 0).right ≠ none) := by
  decide +kernel

theorem witness_TablesAreInterpolated :
    let k : List (Int × Nat) := [(33333, 8192), (47222, 32767)]
    let f : List (Nat × Int) := [(110000, 150), (130000, 350)]
    2 ≤ k.length ∧ k.Pairwise (fun a b => a.1 < b.1) ∧ k.head? = some (33333, 8192) ∧ k.getLast? = some (47222, 32767) ∧
    k = [] ++ (33333, 8192) :: (47222, 32767) :: [] ∧ ((33333 : Int) ≤ 47221 ∧ (47221 : Int) < 47222) ∧
    (∀ a ∈ k, 8192 ≤ a.2 ∧ a.2 ≤ 32767) ∧ 2 ≤ f.length ∧ f.Pairwise (fun a b => a.1 < b.1) ∧ f.head? = some (110000, 150) ∧
    f.getLast? = some (130000, 350) ∧ 109999 < 110000 ∧ 130000 < 130001 ∧ f = [] ++ (110000, 150) :: (130000, 350) :: [] ∧
    (let factors := [16384, 16400, 16500, 16600, 16700, 16800, 16900, 17000, 17100]
     factors.length = 9 ∧ factors[8]? = some 17100 ∧ (600 : Int) = 100 * ((8 : Nat) : Int) - 200 ∧ (-201 : Int) ≤ -200 ∧
     factors[7]? = some 17000 ∧ 100 * ((7 : Nat) : Int) - 200 ≤ 599 ∧ (599 : Int) < 100 * ((7 : Nat) : Int) - 100) := by
  decide +kernel

theorem witness_RecordTotals :
    let ctx := contextOf 0 (List.replicate 13 0) 0
    let r := completeRecord sited.tb (some 1) 0 ctx false false
    ctx.axles.length = 13 ∧ (r.axles.filterMap AxleEntry.spacing).length ≤ 12 ∧
    (∀ d ∈ r.axles.filterMap AxleEntry.spacing, d ≤ 20000) ∧
    (contextOf 0 [0] 0).axles = [{ axle := axleAt 0 0 25000, eff := 25000, spacing := none }] := by
  decide +kernel

/-- Rule 0 of the worked class table. -/
def rule0 : ClassRule :=
  { code := 1, axles := ⟨2, 2⟩, spacings := [⟨150, 320⟩], gvw := some ⟨0, 3500⟩, minFirstAxle := none, axleLimit := none
    gvwLimit := none }

/-- V1 of the worked classing example fits rule 0; V4, with its spacing of 321 cm, fits none. -/
theorem test_rule_fits : rule0.fits 2 [266] 1420 720 = true ∧ rule0.fits 2 [321] 1750 900 = false := by
  decide +kernel

/-- A vehicle of two axles 412 cm apart, whose generation holds a rule it fits after one it does not. -/
def classed : Context :=
  let c := contextOf 0 [0, 1600] 2850
  let rule : Nat → Option ClassRule := fun n => some { rule0 with code := 5, axles := ⟨n, n⟩, spacings := [⟨412, 412⟩], gvw := none }
  { c with
    generation := { gen1 with set := { gen1.set with classes := [rule 3, rule 2] } }
    axles := c.axles.map fun x => { x with spacing := if x.axle.time = 0 then some 4120 else none } }

/-- The record's spacings in cm, its axle count and its class, with the rules it meets and those it does not. -/
theorem witness_ClassIsFirstFit :
    let r := completeRecord sited.tb (some 1) 0 classed false false
    let u := completeRecord sited.tb (some 1) 0 (contextOf 0 [0, 1600] 2850) false false
    (r.axles.filterMap AxleEntry.spacing).map (fun mm => roundNat mm 10) = [412] ∧ r.axles.length = 2 ∧ r.cls = 5 ∧
    (classed.generation.set.classes.map fun c => c.map fun x => (x.axles, x.spacings, x.gvw, x.minFirstAxle)) =
      [some (⟨3, 3⟩, [⟨412, 412⟩], none, none), some (⟨2, 2⟩, [⟨412, 412⟩], none, none)] ∧
    gen1.set.classes.filterMap id = [] ∧ u.cls = 0 := by
  decide +kernel

/-- A two-axle vehicle of lane 1 with its first axle changed. -/
def firstAxle (f : Axle → Axle) : Context :=
  let c := contextOf 0 [0, 1600] 2850
  { c with axles := c.axles.map fun x => if x.axle.time = 0 then { x with axle := f x.axle } else x }

/-- A two-axle vehicle with both own speeds given. -/
def atSpeeds (v w : Nat) : Context :=
  let c := contextOf 0 [0, 1600] 2850
  { c with axles := c.axles.map fun x =>
      { x with axle := { x.axle with ownSpeed := some (if x.axle.time = 0 then v else w) } } }

/-- The quality that the close gives a vehicle of lane 1. -/
def qualityOf (ctx : Context) : Quality := (completeRecord sited.tb (some 1) 0 ctx false false).quality

/-- Each vehicle meets the hypotheses of one clause: the check named fails on it and those before it pass. The speeds are one
beyond the default bounds of 4 167 and 44 444 mm/s, and on them; 23 000 and 21 000 are those of the worked calculation. -/
theorem witness_QualityIsFirstFailure :
    qualityOf (contextOf 0 [0] 0) = .fragment ∧
    qualityOf (firstAxle fun a => { a with row1 := a.row1.map fun c => { c with left := none } }) = .incomplete ∧
    qualityOf (firstAxle fun a => { a with row2 := a.row2.map fun c => { c with straddle := true } }) = .straddle ∧
    qualityOf (atSpeeds 4166 4166) = .speedRange ∧ qualityOf (atSpeeds 44445 44445) = .speedRange ∧
    qualityOf (atSpeeds 4167 4167) = .good ∧ qualityOf (atSpeeds 44444 44444) = .good ∧
    qualityOf (atSpeeds 23000 21000) = .acceleration ∧
    qualityOf (firstAxle fun a => { a with row2 := none, ownSpeed := none }) = .singleRow ∧
    qualityOf (firstAxle fun a => { a with row2 := a.row2.map fun c =>
      { c with left := c.left.map fun p => { p with area := 0 } } }) = .rowDisagree ∧
    qualityOf (firstAxle fun a => { a with row2 := a.row2.map fun c =>
      { c with left := c.left.map fun p => { p with clipped := true } } }) = .offscale ∧
    qualityOf { contextOf 0 [0, 1600] 2850 with split := true } = .split ∧ qualityOf (contextOf 0 [0, 1600] 2850) = .good := by
  refine ⟨?_, ?_, ?_, ?_, ?_, ?_, ?_, ?_, ?_, ?_, ?_, ?_, ?_⟩ <;> decide +kernel

theorem witness_ProbeJudgesReading :
    Probe.start.state = .absent ∧ ({ probeOn with state := .seeding } : Probe).state = .seeding ∧ probeOn.state = .good ∧
    ({ probeOn with state := .suspect } : Probe).state = .suspect ∧ probeOn.smoothed = some 270 ∧
    ((300 : Int) - 270).natAbs ≤ 30 ∧ 30 < ((301 : Int) - 270).natAbs ∧
    ({ probeOn with state := .failed } : Probe).recovery = none ∧
    ({ probeOn with state := .failed, recovery := some { count := 7, latest := 270 } } : Probe).recovery =
      some { count := 7, latest := 270 } := by
  decide +kernel

theorem witness_GateCountsAndEnds :
    let g : Gate := { probe := 0, start := 0, length := 10000, base := 0 }
    gating.temp.gate = some g ∧ g.length ≤ ticksSince gating.tb.t g.start ∧ sited.temp.gate = none ∧
    (clockAt 9999 gating).temp.gate = some g ∧ ticksSince (clockAt 9999 gating).tb.t g.start < g.length := by
  decide +kernel

theorem witness_ProbeSettingsTaken :
    ({ gating.mail with tempOffers := [TableSet.standard] } : Mail).tempOffers = TableSet.standard :: [] ∧
    gating.mail.tempOffers = [] ∧ gating.temp.gate ≠ none ∧ sited.temp.gate = none ∧
    did .probeSettingsTake { gating with mail := { gating.mail with tempOffers := [probed] } } (fun t =>
      t.temp.gate = gating.temp.gate && (t.probe 0).role = .primary) = true ∧
    did .probeSettingsTake { gating with mail := { gating.mail with tempOffers := [TableSet.standard] } } (fun t =>
      t.temp.gate = none && (t.probe 0).state = .absent) = true := by
  decide +kernel

theorem witness_BandsOfTemperature :
    (-101 : Int) < -100 ∧ (-100 : Int) ≤ -100 ∧ (-1 : Int) ≤ -1 ∧ (0 : Int) ≤ 0 ∧ (99 : Int) ≤ 99 ∧ bandOf (-101) = 0 ∧
    bandOf (-100) = 1 ∧ bandOf 315 = 5 ∧ bandOf 500 = 7 := by
  decide +kernel

/-- The record with another first-axle load. -/
def weighing (load : Nat) : VehicleRecord :=
  { record with axles := record.axles.map fun e => if e.spacing.isSome then { e with load := load } else e }

theorem witness_DriftFeedJudged :
    let s := { thirteenth with drift := { thirteenth.drift with policy := policy } }
    s.mail.toDrift = record :: [] ∧ sited.mail.toDrift = [] ∧ s.drift.policy.refClass ≠ 0 ∧ record.cls = s.drift.policy.refClass ∧
    record.quality = .good ∧ record.conditions.tempHeld = false ∧ (s.drift.lanes.get record.lane).frozen = false ∧
    record.axles.length = 2 ∧ ((4200 : Int) - policy.target).natAbs * 100 ≤ policy.window * policy.target ∧
    policy.window * policy.target < ((7801 : Int) - policy.target).natAbs * 100 ∧
    policy.batch ≤ (s.driftBand 0 4).n + 1 ∧ (s.driftBand 0 3).n + 1 < policy.batch ∧
    (weighing 7801).axles.head?.map AxleEntry.load = some 7801 ∧ { record with cls := 8 }.cls ≠ policy.refClass := by
  decide +kernel

theorem witness_CommitOffersTaken :
    let o : DriftOffer := { policy := policy, reset := false }
    let site : SiteItem := { SiteItem.standard with threshold := 1 }
    ({ sited.mail with driftOffers := [o], siteOffers := [site] } : Mail).driftOffers = o :: [] ∧
    ({ sited.mail with driftOffers := [o], siteOffers := [site] } : Mail).siteOffers = site :: [] ∧
    sited.mail.driftOffers = [] ∧ sited.mail.siteOffers = [] ∧ sited.store.armed = true ∧
    site.threshold ≤ holding.store.held.length ∧ holding.store.armed = false ∧ holding.store.held.length < 2 := by
  decide +kernel

theorem witness_DriftRequests :
    12288 ≤ 12288 ∧ 20480 ≤ 20480 ∧ 12287 < 12288 ∧ 20480 < 20481 ∧ 20481 < 65536 ∧ (0 : Byte).toNat = 0 ∧ 4 < (5 : Byte).toNat ∧
    1 < (2 : Byte).toNat ∧ 7 < (8 : Byte).toNat := by
  decide

/-- A staged default set over generation 1. -/
def staged : State := sited.setStaging (some { set := TableSet.standard, source := some 1 })

theorem witness_StagingRequests :
    State.reset.tables.staging = none ∧ State.reset.tables.active = none ∧ sited.tables.staging = none ∧
    sited.tables.active = some gen1 ∧ staged.tables.staging = some { set := TableSet.standard, source := some 1 } ∧
    stagePutLength onePoint.bytes = true ∧ stagePutItem onePoint.bytes = some onePoint ∧
    stagePutLength [4, 0, 0] = true ∧
    stagePutItem [4, 0, 0] = none ∧ ItemId.site ≠ onePoint.id ∧
    TableSet.standard.classes.length = 32 := by
  decide +kernel

theorem witness_DiscardDropsStaging :
    sited.tables.staging = none ∧ staged.tables.staging = some { set := TableSet.standard, source := some 1 } ∧
    staged.tables.active = some gen1 := by
  decide +kernel

theorem witness_staged_GenerationInv : staged.GenerationInv := by
  refine ⟨⟨rfl, by decide, by decide⟩, fun g h => ?_, fun ln g h => ?_, fun ln c h => ?_⟩
  · have h : (none : Option Generation) = some g := h
    cases h
  · have h : some gen1 = some g := by fin_cases ln <;> exact h
    exact .inl h
  · have h : (none : Option Context) = some c := by fin_cases ln <;> exact h
    cases h

theorem witness_CommitMakesGeneration :
    staged.GenerationInv ∧ staged.tables.staging = some { set := TableSet.standard, source := some 1 } ∧
    staged.tables.retiring = none ∧ TableSet.standard.firstFailure = none ∧ staged.quiet 0 = true :=
  ⟨witness_staged_GenerationInv, by decide +kernel⟩

/-- Sets of the worked validation, each with one fault left. -/
def faulty (i : Item) : TableSet := TableSet.standard.put i

theorem witness_CommitIsRefused :
    1 < (2 : Byte).toNat ∧ (1 : Byte).toNat ≤ 1 ∧ sited.tables.staging = none ∧
    staged.tables.staging = some { set := TableSet.standard, source := some 1 } ∧ newer.tables.retiring = some gen1 ∧
    ((faulty onePoint).lanes.get 2).enabled = true ∧ ((faulty onePoint).speedTabs.get 2).length < 2 ∧
    (faulty (.classRule 9 (some { rule0 with axles := ⟨5, 4⟩ }))).classes[9]? = some (some { rule0 with axles := ⟨5, 4⟩ }) ∧
    (faulty (.drift { DriftItem.standard with refClass := 14 })).drift.refClass ≠ 0 ∧
    ((TableSet.standard.put (.probe 1 { role := .primary, points := [] })).put
      (.probe 2 { role := .primary, points := [] })).probes.map ProbeItem.role = ⟨.none, .primary, .primary, .none⟩ ∧
    ((faulty (.probe 1 { role := .primary, points := [(1, 1)] })).probes.get 1).points.length < 2 ∧
    (TableSet.standard.firstFailure = none) := by
  decide +kernel

theorem witness_StoreTakesOrDrops :
    let full : State := { closing with store := { closing.store with held := List.replicate 256 record } }
    closing.mail.toStore = record :: [] ∧ sited.mail.toStore = [] ∧ record.serial ≠ none ∧ closing.store.held.length < 256 ∧
    ¬ full.store.held.length < 256 ∧ closing.store.armed = true ∧ ¬ closing.store.threshold ≤ (closing.store.held ++ [record]).length ∧
    ({ closing.store with threshold := 1 } : RecordStore).threshold ≤ (closing.store.held ++ [record]).length := by
  decide +kernel

theorem witness_TallyCounts :
    closing.mail.toTally = record :: [] ∧ sited.mail.toTally = [] ∧ closing.mail.drops = 3 :: [] ∧ sited.mail.drops = [] ∧
    record.speed = some 1598 ∧ ({ record with speed := none } : VehicleRecord).speed = none ∧ record.quality = .good ∧
    sited.tally.active.a.speeds[15]? = some 0 ∧ sited.tally.active.a.axleLoads[15]? = some 0 := by
  decide +kernel

theorem witness_ReleasesFreeTheOldest :
    2 < 2 ^ 48 ∧ holding.store.serial = some 2 ∧ (2 ≤ 2) ∧ 1 < 2 ∧ sited.tally.queue = [] ∧
    ({ sited.tally with queue := [sited.tallyEntry] } : TallyUnit).queue = sited.tallyEntry :: [] := by
  decide +kernel

theorem witness_CaptureArmsAndWrites :
    sited.capture.state = .idle ∧ (sited.asm 1).service = .inService ∧ (State.reset.asm 1).service = .out ∧
    armed.capture.state ≠ .idle ∧ (2 : Byte) = 2 ∧ (31 : Byte).toNat ≤ 31 ∧ 31 < (32 : Byte).toNat ∧ 16 < (17 : Byte).toNat ∧
    3 < (4 : Byte).toNat ∧ armed.capture.nextWrite = armed.tb.t ∧ armed.capture.lane = some 1 ∧ armed.capture.d = some 4 ∧
    recording.capture.state = .recording ∧ recording.capture.startTick ≠ none ∧ recording.capture.nextWrite = recording.tb.t ∧
    2048 ≤ ((List.replicate 2048 ({ tick := 4, ys := Four.fill 0 } : SampleSet)).dropWhile
      fun y => decide (some y.tick ≠ recording.capture.startTick)).length := by
  decide +kernel

/-- Armed in lane 2 with three sets held about the target 1 007 842 of the worked sequence. -/
def about : State :=
  { sited with capture := { CaptureUnit.arm 1 4 .next 1010732 with
    buffer := [1007836, 1007840, 1007844].map fun t => { tick := BitVec.ofNat 32 t, ys := Four.fill 0 } } }

theorem witness_CaptureFollowsVehicle :
    let target : Tick := 1010000 - BitVec.ofNat 32 (roundNat (windowsOf LaneItem.standard 9990).dtMax 10)
    about.capture.state = .armed ∧ about.capture.lane = some 1 ∧ (about.matcher 1).windows = some (windowsOf LaneItem.standard 9990) ∧
    target = 1007842 ∧ tickBefore target 1007836 = false ∧ tickDist 1007840 target < tickDist 1007836 target ∧
    tickDist 1007840 target ≤ tickDist 1007844 target ∧ tickBefore target 1007843 = true ∧ armed.capture.buffer = [] ∧
    sited.capture.state ≠ .armed ∧ recording.mail.toCapture = { record := record, opened := none, laneOut := false } :: [] ∧ recording.capture.state = .recording ∧
    recording.capture.lane = some record.lane ∧ recording.capture.trigger = some .next ∧ recording.capture.d = some 4 ∧
    sited.mail.toCapture = [] ∧
    ((recording.captureOpen 0 2164).mail.toCapture = { record := record, opened := some 6, laneOut := false } :: []) := by
  decide +kernel

/-- A record with every mark and condition of one kind set and no serial. -/
def marked : VehicleRecord :=
  { record with
    serial := none, speed := none, split := true, quality := .split, tw := -15
    conditions := { tempHeld := true, timebaseFree := false, tailgate := true, timeout := false, captured := true }
    flags := { axleOver := true, gvwOver := false, laneBanned := true }
    axles := record.axles.map fun e => { e with speed := none, row := .row2, straddle := true, single := .sideOut } }

theorem test_record_layout : RecordLayout record.bytes record ∧ RecordLayout marked.bytes marked := by
  unfold RecordLayout AxleAt; decide +kernel

/-- Bytes of the layout of R185 written out: the marks byte of an entry is 2 + 4 + 16, the record's bits 1 + 2 + 8 + 32. -/
theorem test_record_bytes :
    marked.bytes.take 22 = [0, 0, 0, 0, 0, 0, 1, 2, 0x1D, 0x1C, 0, 0, 0xFE, 0x24, 0xFF, 0xFF, 5, 9, 43, 5, 0xF1, 0xFF] ∧
    marked.bytes.length = 56 ∧ marked.bytes.getLast? = some 22 := by
  decide +kernel

theorem witness_ReadsChangeNothing_tallies :
    (∀ ln, (sited.tallyEntry.lanes.get ln).Sized) ∧ TallyLayout sited.tallyEntry.bytes sited.tallyEntry := by
  unfold Tally.Sized TallyLayout CountsAt; decide +kernel

theorem test_description_layout :
    let d : Description := { serial := none, lane := 3, startTick := some 0x12345678, d := 16, count := 2048, truncated := true }
    DescriptionLayout d.bytes d := by
  unfold DescriptionLayout; decide +kernel

/-- A device with a vehicle open, a gate and a recording in progress, crossings pending and a delivery mark. -/
def busyState : State :=
  let s := { newer with temp := gating.temp, capture := recording.capture }
  (s.setMatcher 1 { s.matcher 1 with queue := [crossing 1 .one 0x01020304], mark := some 77 }).setUnit ⟨2, 1⟩
    { unitOn with y := -5, baseline := -1300, lastExcess := -70000, detector := .held 1, miss := 3, generation := some 515 }

theorem test_live_layout : LiveLayout busyState.liveBytes busyState := by
  refine ⟨?_, ?_, ?_, ?_, ?_, ?_, ?_, ?_, ?_, ?_, ?_, ?_⟩ <;>
  · try unfold ChannelAt
    try unfold MatcherAt AssemblerAt
    try unfold ProbeAt
    try unfold CaptureAt
    try unfold OptAt
    decide +kernel

theorem test_item_layouts :
    FieldsAt onePoint.bytes 0 (itemLayout onePoint) ∧
    FieldsAt (Item.classRule 31 (some rule0)).bytes 0 (itemLayout (.classRule 31 (some rule0))) ∧
    FieldsAt (Item.classRule 0 none).bytes 0 (itemLayout (.classRule 0 none)) ∧
    FieldsAt (Item.lane 3 LaneItem.standard).bytes 0 (itemLayout (.lane 3 LaneItem.standard)) ∧
    FieldsAt (Item.site SiteItem.standard).bytes 0 (itemLayout (.site SiteItem.standard)) ∧
    FieldsAt (Item.channel ⟨3, 3⟩ ChannelItem.standard).bytes 0 (itemLayout (.channel ⟨3, 3⟩ ChannelItem.standard)) ∧
    FieldsAt (Item.probe 2 { role := .deep, points := [(70000, -400)] }).bytes 0
      (itemLayout (.probe 2 { role := .deep, points := [(70000, -400)] })) := by
  refine ⟨?_, ?_, ?_, ?_, ?_, ?_, ?_⟩ <;>
  · simp only [itemLayout, List.flatMap_cons, List.flatMap_nil, List.cons_append, List.nil_append, List.append_nil, FieldsAt,
      rule0, onePoint, List.replicate]
    decide +kernel

theorem witness_StatusReportsAndClears : -32768 ≤ sited.temp.tw ∧ sited.temp.tw ≤ 32767 := by decide +kernel

theorem witness_ReadsChangeNothing :
    State.reset.tables.active = none ∧ sited.tables.active = some gen1 ∧ 0 < 2 ^ 48 ∧ (0 : Byte).toNat = 0 ∧ 4 < (5 : Byte).toNat ∧
    1 ≤ (4 : Byte).toNat ∧ (holding.store.held.filter fun r => r.serial.any fun m => decide (2 ≤ m)) = [] ∧
    (holding.store.held.filter fun r => r.serial.any fun m => decide (1 ≤ m)) ≠ [] ∧ sited.tally.queue = [] ∧
    sited.capture.state ≠ .held ∧ captured.capture.state = .held ∧
    captured.capture.description = some ⟨some 1, 0, some 4, 4, 2, false⟩ ∧ 120 < (121 : Byte).toNat ∧ (120 : Byte).toNat ≤ 120 := by
  decide +kernel

theorem witness_ReadsChangeNothing_identities :
    ∀ id : ItemId, id.codes ≠ ((8 : Byte).toNat, (0 : Byte).toNat) := by
  intro id; cases id <;> simp [ItemId.codes]

/-- A link whose receiver is in a given state. -/
def receiving (rx : Receiver) : Link := { sited.link with rx := rx }

/-- The header of a frame of n body bytes. -/
def headerFor (n : Nat) : FrameHeader := { length := n, kind := 1, tag := 7 }

theorem witness_BytesAreFramed :
    sited.link.rx = .hunt ∧ (0x5B : Byte) ≠ 0x5C ∧ (receiving (.header [1, 4, 1])).rx ≠ .hunt ∧
    (receiving (.header [1, 4, 1])).rx = .header [1, 4, 1] ∧ 1024 < (1 : Byte).toNat + 256 * (4 : Byte).toNat ∧
    (0 : Byte).toNat + 256 * (4 : Byte).toNat = 1024 ∧ [(1 : Byte), 4].length < 3 ∧
    (receiving (.body (headerFor 2) [9])).rx = .body (headerFor 2) [9] ∧ (headerFor 2).length ≤ [(9 : Byte)].length + 1 ∧
    [(9 : Byte)].length + 1 < (headerFor 3).length ∧
    (receiving (.check (headerFor 0) [] (some 0xA0))).rx = .check (headerFor 0) [] (some 0xA0) ∧ sited.link.requests.length < 4 ∧
    sited.link.overrunSlot = none ∧ 50 < ticksSince (clockAt 51 sited).tb.t sited.link.lastByte ∧
    ticksSince (clockAt 50 sited).tb.t sited.link.lastByte ≤ 50 := by
  decide +kernel

/-- A served request. -/
def servedRequest : Request := { kind := 1, tag := 7, body := [], served := true }

/-- Its reply. -/
def servedReply : Reply := { kind := 0x81, tag := 7, body := [0], source := .queued }

/-- The device sending that reply. -/
def replying : State :=
  { sited with link := { sited.link with
    requests := [servedRequest, { servedRequest with served := false }], sending := some (.reply servedReply) } }

theorem witness_OutgoingFramesKeepOrder :
    (Notice.tallyClosed 1).kind = (Notice.tallyClosed 2).kind ∧ (Notice.tallyClosed 1).kind = 0xE2 ∧
    (Notice.started true false).kind ≠ (Notice.tallyClosed 1).kind ∧ sited.link.sending = none ∧ sited.link.outgoing = [] ∧
    replying.link.sending = some (.reply servedReply) ∧ servedReply.source = .queued ∧
    replying.link.requests = [] ++ servedRequest :: [{ servedRequest with served := false }] ∧ servedRequest.served = true ∧
    { servedReply with source := .overrun }.source ≠ .queued ∧ State.reset.link.sending = none ∧
    State.reset.link.outgoing = .notice (.started true false) :: [] ∧ (Instr.status 7 []).wellFormed = true ∧
    encodeRequest (.status 7 []) = some (1, 7, []) ∧
    did (.status 7 []) replying (fun t => t.link.requests = [servedRequest, servedRequest]) = true ∧
    did (.status 8 []) replying (fun t => t.link.requests = replying.link.requests) = true := by
  decide +kernel

theorem witness_LinkRefusesFrames :
    (0x07 : Byte).toNat < 0x80 ∧ (0x7F : Byte).toNat < 0x80 ∧ requiredLength (.timeSet 7 (bodyOf 3)) = some 4 ∧
    encodeRequest (.timeSet 7 (bodyOf 3)) = some (0x03, 7, bodyOf 3) ∧ (bodyOf 3).length ≠ 4 ∧ (bodyOf 1).length < 2 ∧
    itemIdOf (4 : Byte).toNat (0 : Byte).toNat = some .tempTab ∧ fieldsLength .tempTab (bodyOf 17) ≠ some (bodyOf 17).length := by
  decide +kernel

theorem witness_RestartRestartsBlocks : staged.GenerationInv ∧ staged.tables.active = some gen1 ∧
    (staged.unit ⟨0, 0⟩).waiting = none ∧ ((withUnits waitingUnit).unit ⟨0, 0⟩).waiting = waitingUnit.waiting :=
  ⟨witness_staged_GenerationInv, by decide +kernel⟩

/-- A restart that enables one unit of a lane and disables the next marks the lane on the way, though it ends as it began. -/
theorem witness_RestartRestartsBlocks_notices :
    let s := (staged.setUnit ⟨0, 0⟩ waitingUnit).setUnit ⟨0, 1⟩ { unitOn with waiting := some disabling }
    s.restartBlocks.link = fours.foldl (fun l ln =>
      if (s.restartBlocks.lanes.get ln).reported = (laneUpTo s s.restartBlocks ln 4).reported then l
      else l.raised (laneChange ln)) (unitNotices s s.restartBlocks allChannels) ∧
    s.restartBlocks.link = (s.link.raised (.serviceChange { ChangeSet.none with channels := 3, lanes := 1 })) := by
  decide +kernel

theorem witness_RequestFramesRoundTrip :
    (Instr.stageCommit 7 [1]).wellFormed = true ∧ encodeRequest (.stageCommit 7 [1]) = some (0x13, 7, [1]) ∧
    sited.link.rx = .hunt ∧ sited.link.requests.length < 4 ∧ (Instr.stagePut 7 (bodyOf 1024)).wellFormed = true := by
  decide +kernel

theorem witness_ItemsRoundTrip :
    onePoint.ok = true ∧ (Item.classRule 31 (some rule0)).ok = true ∧ (Item.site SiteItem.standard).ok = true := by
  decide +kernel

/-! The invariants hold together in states whose next step answers, so the statements about every step say something. -/

theorem witness_StepsKeepFigures :
    sited.RateInv ∧ sited.FactorInv ∧ sited.SelectionInv ∧ ∃ t, step { sited with pending := [.refEdge true] } = .next t := by
  refine ⟨?_, ?_, ⟨by decide +kernel, by decide +kernel, fun p h => ?_, by decide +kernel⟩, _, rfl⟩
  · unfold State.RateInv; decide +kernel
  · unfold State.FactorInv; decide +kernel
  · have h : (none : Option Probe) = some p := h
    cases h

theorem witness_StepsKeepUnitsAndLanes :
    sited.ChannelInv ∧ sited.LaneInv ∧ ∃ t, step { sited with pending := [.channelSample ⟨0, 0⟩ 500] } = .next t := by
  refine ⟨fun ⟨ln, p⟩ => ?_, ?_, _, rfl⟩
  · revert ln p; unfold ChannelUnit.Ok; decide +kernel
  · unfold State.LaneInv State.LaneOk; decide +kernel

theorem witness_StepsKeepTables : gen1.Ok ∧ staged.GenerationInv ∧
    ∃ t, step { staged with pending := [.stageCommit 7 [0]] } = .next t := by
  refine ⟨⟨⟨by decide +kernel, by decide +kernel, fun ⟨ln, p⟩ => ?_, by decide +kernel, by decide +kernel, by decide +kernel,
    by decide +kernel, by decide +kernel, by decide +kernel⟩, by decide +kernel, by decide +kernel⟩,
    witness_staged_GenerationInv, _, rfl⟩
  revert ln p; decide +kernel

theorem witness_StepsKeepTables_settings : sited.SettingsInv := by
  obtain ⟨hg, -, -⟩ := witness_StepsKeepTables
  refine ⟨fun x h => ?_, fun g h => ?_, fun g h => ?_, fun ln g h => ?_, fun o h => ?_, by decide +kernel, by decide +kernel⟩
  · have h : (none : Option Staging) = some x := h
    cases h
  · have h : some gen1 = some g := h
    cases h; exact hg
  · have h : (none : Option Generation) = some g := h
    cases h
  · have h : some gen1 = some g := by fin_cases ln <;> exact h
    cases h; exact hg
  · have h : o ∈ ([] : List DriftOffer) := h
    cases h

theorem witness_StepsKeepRecords : holding.RecordInv ∧ ∃ t, step { holding with pending := [.recordRelease 7 [1, 0, 0, 0, 0, 0]] } = .next t := by
  refine ⟨⟨by decide +kernel, by decide +kernel, by decide +kernel, ?_, fun c h => ?_, ?_, fun ln c h => ?_⟩, _, rfl⟩
  · intro n h
    have h : n ∈ [1] := h
    cases List.mem_singleton.1 h
    refine ⟨by decide, by decide, fun c h => ?_⟩
    have h : some 2 = some c := h
    cases h; decide
  · have h : some 2 = some c := h
    cases h; decide
  · intro r h
    have h : r ∈ [record] := h
    cases List.mem_singleton.1 h
    unfold VehicleRecord.Ok; decide +kernel
  · have h : (none : Option Context) = some c := by fin_cases ln <;> exact h
    cases h

theorem witness_StepsKeepRecords_tallies : closing.TallyInv ∧
    ({ closing with tally := { closing.tally with queue := [sited.tallyEntry] } } : State).TallyInv ∧
    ∃ t, step { closing with pending := [.tallyRecord] } = .next t := by
  refine ⟨?_, ?_, _, rfl⟩ <;>
  · unfold State.TallyInv Tally.Sized; decide +kernel

theorem witness_StepsKeepLink : replying.LinkInv ∧ ∃ t, step { replying with pending := [.transmitEnd] } = .next t := by
  refine ⟨?_, _, rfl⟩
  unfold State.LinkInv; decide +kernel

end Sys2Proof.Tests
end

section
/-! The reference edge (chapter 1): what a second boundary, a realignment and a change of N_ref make of the state, how an edge is
judged case by case, and from these the two statements about edges before and after lock. -/

namespace Sys2Proof.Machine

/-! ## The frame of the clock as an equation -/

/-- States that differ only where the timebase reaches differ in four fields. -/
theorem ClockFrame.eq_update {s t : State} (h : ClockFrame s t) :
    t = { s with tb := t.tb, lanes := t.lanes, tally := t.tally, link := t.link } := by
  obtain ⟨hpending, htemp, hdrift, htables, hstore, hcapture, hmail, -, -, -, -, -⟩ := h
  rw [← hpending, ← htemp, ← hdrift, ← htables, ← hstore, ← hcapture, ← hmail]

/-! ## Second boundary and realignment (R8, R9, R169) -/

/-- The Tally Unit's examination meets its description (R169). -/
theorem State.examineInterval_examined (s : State) :
    IntervalExamined s s.tb.seconds s.examineInterval.tally s.examineInterval.link := by
  unfold IntervalExamined State.examineInterval
  by_cases hdue : s.tb.seconds.toNat % (s.tally.interval * 60) = 0
  · by_cases hroom : s.tally.queue.length < 4
    · simp only [hdue, if_true, hroom, Config.tallyCapacity]
      exact ⟨rfl, by simp [State.raise, State.reopenTallies, Link.raised]⟩
    · simp only [hdue, if_true, hroom, if_false, Config.tallyCapacity]
      exact ⟨rfl, trivial⟩
  · simp [hdue]

/-- A second boundary has the new S examined (R8). -/
theorem State.secondBoundary_examined (s : State) :
    IntervalExamined s (s.tb.seconds + 1) s.secondBoundary.tally s.secondBoundary.link :=
  State.examineInterval_examined { s with tb := { s.tb with seconds := s.tb.seconds + 1 } }

@[simp] theorem State.examineInterval_lanes (s : State) : s.examineInterval.lanes = s.lanes := by
  unfold State.examineInterval
  split
  · split <;> rfl
  · rfl

@[simp] theorem State.realign_lanes (s : State) : s.realign.lanes = s.lanes := by
  unfold State.realign
  simp only [State.secondBoundary]
  split <;> simp

/-- Realignment on the edge of this tick meets its description (R9). -/
theorem State.realign_realigned (s : State) :
    Realigned s s.realign.tb.seconds s.realign.tally s.realign.link := by
  unfold Realigned
  rw [State.realign_tb]
  by_cases hlate : 2 * ticksSince s.tb.t s.tb.mark < s.tb.nRef
  · simp [hlate, State.realign]
  · simp only [hlate, if_false, State.realign, true_and]
    exact State.secondBoundary_examined { s with tb := { s.tb with mark := s.tb.t } }

/-! ## A change of N_ref (R7, R44, R53) -/

theorem Lane.recompute_out {l : Lane} (h : l.asm.service = .out) (n : Nat) : l.recompute n = l := by
  simp [Lane.recompute, h]

theorem Lane.recompute_inService {l : Lane} (h : l.asm.service ≠ .out) (n : Nat) :
    l.recompute n = { l with matcher := { l.matcher with windows := l.asm.working.map fun w => windowsOf w n } } := by
  unfold Lane.recompute
  split
  · next hout => exact absurd hout h
  · rfl

@[simp] theorem State.setNRef_tally (s : State) (n : Nat) : (s.setNRef n).tally = s.tally := by
  unfold State.setNRef; split <;> rfl

@[simp] theorem State.setNRef_link (s : State) (n : Nat) : (s.setNRef n).link = s.link := by
  unfold State.setNRef; split <;> rfl

/-- The windows follow the value N_ref takes. -/
theorem State.setNRef_windowsFollow (s : State) (n : Nat) : WindowsFollow s (s.setNRef n) n := by
  intro ln
  unfold State.setNRef
  by_cases hsame : n = s.tb.nRef
  · simp [hsame]
  · by_cases hout : (s.asm ln).service = .out
    · simp only [hsame, hout, if_false, or_true, if_true, Four.get_map]
      exact Lane.recompute_out hout n
    · simp only [hsame, hout, if_false, or_self, Four.get_map]
      exact Lane.recompute_inService hout n

/-! ## Realigned with a new N_ref: what acceptance and lock share (R3, R4) -/

/-- t is s realigned on the edge of this tick under the old N_ref (R9), with N_ref become n and the windows following it (R44). -/
structure AlignedTo (s t : State) (n : Nat) : Prop where
  tb : t.tb = { s.tb with nRef := n, mark := s.tb.t, seconds := t.tb.seconds }
  realigned : Realigned s t.tb.seconds t.tally t.link
  windows : WindowsFollow s t n

theorem State.realign_setNRef_alignedTo (s : State) (n : Nat) : AlignedTo s (s.realign.setNRef n) n where
  tb := by simp only [State.setNRef_tb, State.realign_tb]
  realigned := by
    simp only [State.setNRef_tb, State.setNRef_tally, State.setNRef_link]
    exact s.realign_realigned
  windows ln := by
    have h := s.realign.setNRef_windowsFollow n ln
    simp only [State.realign_tb, State.realign_lanes, State.asm, State.matcher] at h ⊢
    exact h

/-! ## The candidate run (R3) -/

theorem distNat_eq_natAbs (a b : Nat) : distNat a b = ((a : Int) - b).natAbs := by
  unfold distNat; omega

theorem isCandidate_eq_false {n : Nat} (h : n < 9800 ∨ 10200 < n) : isCandidate n = false := by
  rw [← Bool.not_eq_true, isCandidate_iff]; omega

theorem joinRun_nil (n : Nat) : joinRun [] n = [n] := rfl

theorem joinRun_of_near {run : List Nat} {a n : Nat} (hlast : run.getLast? = some a) (h : ((n : Int) - a).natAbs ≤ 4) :
    joinRun run n = run ++ [n] := by
  simp only [joinRun, hlast, distNat_eq_natAbs, Config.edgeTolerance, h, if_true]

theorem joinRun_of_far {run : List Nat} {a n : Nat} (hlast : run.getLast? = some a) (h : 4 < ((n : Int) - a).natAbs) :
    joinRun run n = [n] := by
  simp only [joinRun, hlast, distNat_eq_natAbs, Config.edgeTolerance, Nat.not_le.2 h, if_false]

/-! ## The judgement of a measured edge (R3 to R5) -/

theorem State.judgeEdge_searching {s : State} (h : s.tb.lock ≠ .locked) (n : Nat) : s.judgeEdge n = s.searchEdge n := by
  unfold State.judgeEdge
  split
  · rfl
  · rfl
  · next hlocked => exact absurd hlocked h

theorem State.judgeEdge_accept {s : State} {n : Nat} (h : s.tb.lock = .locked) (hn : 9800 ≤ n ∧ n ≤ 10200)
    (hnear : ((n : Int) - s.tb.nRef).natAbs ≤ 4) : s.judgeEdge n = s.acceptEdge n := by
  simp [State.judgeEdge, h, (isCandidate_iff n).2 hn, distNat_eq_natAbs, Config.edgeTolerance, hnear]

theorem State.judgeEdge_reject {s : State} {n : Nat} (h : s.tb.lock = .locked)
    (hn : n < 9800 ∨ 10200 < n ∨ 4 < ((n : Int) - s.tb.nRef).natAbs) : s.judgeEdge n = s.rejectEdge := by
  have hfails : ¬ (isCandidate n && distNat n s.tb.nRef ≤ 4) = true := by
    rw [Bool.and_eq_true, isCandidate_iff, decide_eq_true_eq, distNat_eq_natAbs]; omega
  simp only [State.judgeEdge, h]
  exact if_neg hfails

theorem State.searchEdge_nonCandidate (s : State) {n : Nat} (h : n < 9800 ∨ 10200 < n) :
    s.searchEdge n = State.countRejected { s with tb := { s.tb with run := [] } } := by
  simp [State.searchEdge, isCandidate_eq_false h]

/-- A candidate that leaves the run short of three is only noted in it. -/
theorem State.searchEdge_short (s : State) {n : Nat} (h : 9800 ≤ n ∧ n ≤ 10200) {run : List Nat}
    (hrun : joinRun s.tb.run n = run) (hshort : run.length < 3) :
    s.searchEdge n = { s with tb := { s.tb with run := run } } := by
  simp [State.searchEdge, (isCandidate_iff n).2 h, hrun, Config.runLength, hshort.ne]

/-- A candidate that fills the run locks. -/
theorem State.searchEdge_full (s : State) {n : Nat} (h : 9800 ≤ n ∧ n ≤ 10200) {run : List Nat}
    (hrun : joinRun s.tb.run n = run) (hfull : run.length = 3) : s.searchEdge n = s.lockOn run := by
  simp [State.searchEdge, (isCandidate_iff n).2 h, hrun, Config.runLength, hfull]

theorem State.rejectEdge_below_limit {s : State} (h : s.tb.rejectRun < 2) :
    s.rejectEdge = { s.countRejected with tb := { s.countRejected.tb with rejectRun := s.tb.rejectRun + 1 } } := by
  have hlimit : ¬ 3 ≤ s.tb.rejectRun + 1 := by omega
  simp only [State.rejectEdge, Config.rejectLimit, hlimit, if_false]

theorem State.rejectEdge_at_limit {s : State} (h : 2 ≤ s.tb.rejectRun) :
    s.rejectEdge = s.countRejected.enterLock .unlocked := by
  have hlimit : 3 ≤ s.tb.rejectRun + 1 := by omega
  simp only [State.rejectEdge, Config.rejectLimit, hlimit, if_true]

/-! ## The sample of REFPULSE (R1, R2) -/

/-- The state in which the edge of this tick is judged: REFPULSE high, Tlast at the present tick and the interval measured. -/
def State.measured (s : State) (n : Nat) : State :=
  { s with tb := { s.tb with refHigh := true, tLast := some s.tb.t, lastInterval := some n } }

theorem exec_refEdge_low (s : State) :
    exec (.refEdge false) s = .next { s with tb := { s.tb with refHigh := false } } := rfl

theorem exec_refEdge_stays_high {s : State} (h : s.tb.refHigh = true) : exec (.refEdge true) s = .next s := by
  change execRefEdge true s = _
  simp only [execRefEdge, h, Bool.not_true, Bool.and_false, Bool.false_eq_true, if_false]
  rw [← h]

theorem exec_refEdge_rising {s : State} (h : s.tb.refHigh = false) :
    exec (.refEdge true) s = .next (State.registerEdge { s with tb := { s.tb with refHigh := true } }) := by
  change execRefEdge true s = _
  simp [execRefEdge, h]

theorem exec_refEdge_first {s : State} (h : s.tb.refHigh = false) (hfirst : s.tb.tLast = none) :
    exec (.refEdge true) s = .next { s with tb := { s.tb with refHigh := true, tLast := some s.tb.t } } := by
  simp [exec_refEdge_rising h, State.registerEdge, hfirst, State.noteEdge]

/-- A rising edge after an earlier one is judged by the interval between them. -/
theorem exec_refEdge_measured {s : State} {past : Tick} (h : s.tb.refHigh = false) (hpast : s.tb.tLast = some past) :
    exec (.refEdge true) s =
      .next ((s.measured (ticksSince s.tb.t past)).judgeEdge (ticksSince s.tb.t past)) := by
  simp [exec_refEdge_rising h, State.registerEdge, hpast, State.noteEdge, State.measured]

/-! ## What a lock and an acceptance make of the state (R3, R4) -/

/-- The notice of the new lock state is raised after the realignment's own notices. -/
theorem State.lockOn_locks (s : State) (run : List Nat) :
    ∃ link, (s.lockOn run).tb = { s.tb with
        lock := .locked, nRef := roundNat run.sum 3, run := [], rejectRun := 0, mark := s.tb.t
        seconds := (s.lockOn run).tb.seconds
        relocks := if s.tb.lock = .free then min 65535 (s.tb.relocks + 1) else s.tb.relocks } ∧
      Realigned s (s.lockOn run).tb.seconds (s.lockOn run).tally link ∧
      (s.lockOn run).link = link.raised timebaseChange ∧ WindowsFollow s (s.lockOn run) (roundNat run.sum 3) := by
  obtain ⟨htb, hrealigned, hwindows⟩ := s.realign_setNRef_alignedTo (roundNat run.sum 3)
  refine ⟨(s.realign.setNRef (roundNat run.sum 3)).link, ?_, hrealigned, rfl, hwindows⟩
  simp only [State.lockOn, State.enterLock_tb, Config.runLength]
  rw [htb]
  rfl

theorem State.acceptEdge_accepts (s : State) (n : Nat) :
    (s.acceptEdge n).tb = { s.tb with
        nRef := n, rejectRun := 0, mark := s.tb.t, seconds := (s.acceptEdge n).tb.seconds } ∧
      Realigned s (s.acceptEdge n).tb.seconds (s.acceptEdge n).tally (s.acceptEdge n).link ∧
      WindowsFollow s (s.acceptEdge n) n := by
  obtain ⟨htb, hrealigned, hwindows⟩ := s.realign_setNRef_alignedTo n
  refine ⟨?_, hrealigned, hwindows⟩
  simp only [State.acceptEdge]
  rw [htb]

/-! ## The statements -/

/-- Settles O4: an edge that measures nothing by the cases of the sample, a measured one by what it makes of the candidate run. -/
theorem searchingEdge : Obligations.SearchingEdge := by
  refine ⟨fun s => ⟨exec_refEdge_low s, exec_refEdge_stays_high, exec_refEdge_first⟩, ?_⟩
  intro s past hlock hlow hpast n noted
  have hedge : exec (.refEdge true) s = .next ((s.measured n).searchEdge n) := by
    rw [← State.judgeEdge_searching (s := s.measured n) hlock]
    exact exec_refEdge_measured hlow hpast
  refine ⟨fun hn => ?nonCandidate, fun hlo hhi => ⟨fun hrun => ?starts, fun a hlast hfar => ?restarts,
    fun a hrun hnear => ?grows, fun a b hrun hnear => ?locks⟩⟩
  case nonCandidate =>
    rw [hedge, State.searchEdge_nonCandidate _ hn]
    rfl
  case starts =>
    have hjoin : joinRun (s.measured n).tb.run n = [n] := by
      change joinRun s.tb.run n = _
      rw [hrun, joinRun_nil]
    rw [hedge, State.searchEdge_short _ ⟨hlo, hhi⟩ hjoin (by simp)]
    rfl
  case restarts =>
    have hjoin : joinRun (s.measured n).tb.run n = [n] := joinRun_of_far hlast hfar
    rw [hedge, State.searchEdge_short _ ⟨hlo, hhi⟩ hjoin (by simp)]
    rfl
  case grows =>
    have hjoin : joinRun (s.measured n).tb.run n = [a, n] := by
      change joinRun s.tb.run n = _
      rw [hrun, joinRun_of_near rfl hnear]
      rfl
    rw [hedge, State.searchEdge_short _ ⟨hlo, hhi⟩ hjoin (by simp)]
    rfl
  case locks =>
    have hjoin : joinRun (s.measured n).tb.run n = [a, b, n] := by
      change joinRun s.tb.run n = _
      rw [hrun, joinRun_of_near rfl hnear]
      rfl
    have hsum : [a, b, n].sum = a + b + n := by simp [Nat.add_assoc]
    rw [State.searchEdge_full _ ⟨hlo, hhi⟩ hjoin rfl] at hedge
    obtain ⟨link, htb, hrealigned, hlink, hwindows⟩ := (s.measured n).lockOn_locks [a, b, n]
    rw [hsum] at htb hwindows
    exact ⟨_, link, hedge, htb, hrealigned, hlink, hwindows, (execRefEdge_clock hedge).eq_update⟩

/-- Settles O5: acceptance is a realignment with the interval as N_ref; a reject unlocks when two stand in the run already. -/
theorem lockedEdge : Obligations.LockedEdge := by
  intro s past hlock hlow hpast n noted rejected
  have hedge : exec (.refEdge true) s = .next ((s.measured n).judgeEdge n) := exec_refEdge_measured hlow hpast
  refine ⟨fun hlo hhi hnear => ?accepted, fun hn => ?rejected⟩
  case accepted =>
    rw [State.judgeEdge_accept (s := s.measured n) hlock ⟨hlo, hhi⟩ hnear] at hedge
    obtain ⟨htb, hrealigned, hwindows⟩ := (s.measured n).acceptEdge_accepts n
    exact ⟨_, hedge, htb, hrealigned, hwindows, (execRefEdge_clock hedge).eq_update⟩
  case rejected =>
    rw [hedge, State.judgeEdge_reject (s := s.measured n) hlock hn]
    refine ⟨fun hfew => ?_, fun hlimit => ?_⟩
    · rw [State.rejectEdge_below_limit (s := s.measured n) hfew]
      rfl
    · rw [State.rejectEdge_at_limit (s := s.measured n) hlimit]
      rfl

end Sys2Proof.Machine
end

section
/-! The pavement temperature (chapter 4): how a probe rejects, tracks and recovers, what it makes of a reading in each of its
states, and from these the statement about its judgement; and the bands of a temperature. -/

namespace Sys2Proof.Machine

/-! ## A rejected reading (R62, R64) -/

/-- Three rejects in the run leave room for one more, which fails the probe. -/
theorem Probe.reject_eq (p : Probe) (next : ProbeState) :
    p.reject next = if 3 ≤ p.rejectRun then p.fail else { p with state := next, rejectRun := p.rejectRun + 1 } := by
  simp only [Probe.reject, Config.probeRejectLimit, Nat.reduceLeDiff]

/-! ## A reading in range in GOOD or SUSPECT (R63, R64) -/

section
variable {p : Probe} {old t : Int} {jump : Nat}

theorem Probe.track_near (hold : p.smoothed = some old) (hnear : (t - old).natAbs ≤ jump) (q : Nat) :
    p.track t q jump = p.settleAt (smoothReading old t q) := by
  simp only [Probe.track, hold, Option.getD_some, hnear, if_true]

theorem Probe.track_far (hold : p.smoothed = some old) (hfar : jump < (t - old).natAbs) (q : Nat) :
    p.track t q jump = p.reject .suspect := by
  simp only [Probe.track, hold, Option.getD_some, Nat.not_le.2 hfar, if_false]

end

/-! ## A reading in range in FAILED (R66) -/

theorem Probe.recover_empty {p : Probe} (hrun : p.recovery = none) (t : Int) (jump : Nat) :
    p.recover t jump = { p with recovery := some { count := 1, latest := t } } := by
  simp only [Probe.recover, hrun]

section
variable {p : Probe} {n jump : Nat} {last t : Int}

/-- A reading that jumps starts the run again with itself. -/
theorem Probe.recover_far (hrun : p.recovery = some { count := n, latest := last }) (hfar : jump < (t - last).natAbs) :
    p.recover t jump = { p with recovery := some { count := 1, latest := t } } := by
  simp only [Probe.recover, hrun, Nat.not_le.2 hfar, if_false]

theorem Probe.recover_short (hrun : p.recovery = some { count := n, latest := last }) (hnear : (t - last).natAbs ≤ jump)
    (hshort : n < 7) : p.recover t jump = { p with recovery := some { count := n + 1, latest := t } } := by
  have hlimit : ¬ 8 ≤ n + 1 := by omega
  simp only [Probe.recover, hrun, hnear, if_true, Config.recoveryLength, hlimit, if_false]

/-- The eighth consistent reading recovers the probe. -/
theorem Probe.recover_full (hrun : p.recovery = some { count := n, latest := last }) (hnear : (t - last).natAbs ≤ jump)
    (hfull : 7 ≤ n) : p.recover t jump = p.settleAt t := by
  have hlimit : 8 ≤ n + 1 := by omega
  simp only [Probe.recover, hrun, hnear, if_true, Config.recoveryLength, hlimit]

end

/-! ## The judgement, by state and reading (table of 4.4) -/

section
variable {p : Probe} (q jump : Nat)

theorem Probe.judge_absent (h : p.state = .absent) (r : Reading) : p.judge r q jump = p := by
  simp only [Probe.judge, h]

theorem Probe.judge_seeding_temp (h : p.state = .seeding) (t : Int) : p.judge (.temp t) q jump = p.settleAt t := by
  simp only [Probe.judge, h]

theorem Probe.judge_seeding_outOfRange (h : p.state = .seeding) : p.judge .outOfRange q jump = p.reject .seeding := by
  simp only [Probe.judge, h]

theorem Probe.judge_tracking_temp (h : p.state = .good ∨ p.state = .suspect) (t : Int) :
    p.judge (.temp t) q jump = p.track t q jump := by
  obtain hgood | hsuspect := h
  · simp only [Probe.judge, hgood]
  · simp only [Probe.judge, hsuspect]

theorem Probe.judge_tracking_outOfRange (h : p.state = .good ∨ p.state = .suspect) :
    p.judge .outOfRange q jump = p.reject .suspect := by
  obtain hgood | hsuspect := h
  · simp only [Probe.judge, hgood]
  · simp only [Probe.judge, hsuspect]

/-- A stopped oscillator fails a probe that is measured and not failed already, whatever its reject run (R65). -/
theorem Probe.judge_noSignal (h : p.state = .seeding ∨ p.state = .good ∨ p.state = .suspect) :
    p.judge .noSignal q jump = p.fail := by
  obtain hseeding | hgood | hsuspect := h
  · simp only [Probe.judge, hseeding]
  · simp only [Probe.judge, hgood]
  · simp only [Probe.judge, hsuspect]

theorem Probe.judge_failed_temp (h : p.state = .failed) (t : Int) : p.judge (.temp t) q jump = p.recover t jump := by
  simp only [Probe.judge, h]

theorem Probe.judge_failed_outOfRange (h : p.state = .failed) :
    p.judge .outOfRange q jump = { p with recovery := none } := by
  simp only [Probe.judge, h]

theorem Probe.judge_failed_noSignal (h : p.state = .failed) : p.judge .noSignal q jump = { p with recovery := none } := by
  simp only [Probe.judge, h]

end

/-! ## The statements -/

/-- Settles O31: by the probe's state, each reading with what it makes of the reject run or of the recovery run. -/
theorem probeJudgesReading : Obligations.ProbeJudgesReading := by
  intro p r q jump failed good rejected inRun
  refine ⟨fun h => ?absent, fun h => ?seeding, fun h => ?tracking, fun h => ?noSignal, fun h => ?failed⟩
  case absent => exact Probe.judge_absent q jump h r
  case seeding =>
    exact ⟨Probe.judge_seeding_temp q jump h,
      (Probe.judge_seeding_outOfRange q jump h).trans (p.reject_eq .seeding)⟩
  case tracking =>
    refine ⟨(Probe.judge_tracking_outOfRange q jump h).trans (p.reject_eq .suspect), fun v old hold => ?_⟩
    rw [Probe.judge_tracking_temp q jump h v]
    exact ⟨fun hnear => Probe.track_near hold hnear q,
      fun hfar => (Probe.track_far hold hfar q).trans (p.reject_eq .suspect)⟩
  case noSignal => exact Probe.judge_noSignal q jump h
  case failed =>
    refine ⟨Probe.judge_failed_outOfRange q jump h, Probe.judge_failed_noSignal q jump h, fun v => ?_⟩
    rw [Probe.judge_failed_temp q jump h v]
    exact ⟨fun hrun => Probe.recover_empty hrun v jump, fun n last hrun =>
      ⟨Probe.recover_far hrun, Probe.recover_short hrun, Probe.recover_full hrun⟩⟩

/-- Settles O34: in each of the eight ranges the comparisons below its upper end fail and the one at it holds. -/
theorem bandsOfTemperature : Obligations.BandsOfTemperature := by
  intro tw
  refine ⟨fun hhi => ?_, fun hlo hhi => ?_, fun hlo hhi => ?_, fun hlo hhi => ?_, fun hlo hhi => ?_, fun hlo hhi => ?_,
    fun hlo hhi => ?_, fun hlo => ?_⟩ <;> simp (disch := omega) only [bandOf, if_pos, if_neg]

end Sys2Proof.Machine
end

section
/-! The assembly of vehicles (chapter 5): what one sample of the loop input makes of a lane's presence state, and from it the
statement about the debounce. -/

namespace Sys2Proof.Machine

/-! ## One sample in the debounce (R77, R78) -/

/-- The presence-fell flag is a change of the context alone, and only on a lane with a loop. -/
theorem Assembler.presenceFell_eq (a : Assembler) :
    a.presenceFell = { a with
      context := if a.working.any LaneItem.loop = true then a.context.map fun c => { c with fell := true }
        else a.context } := by
  unfold Assembler.presenceFell
  split <;> rfl

section
variable {a : Assembler} {level : Bool}

theorem Assembler.samplePresence_agrees (h : level = a.presence) :
    a.samplePresence level = { a with presenceRun := 0 } := by
  simp only [Assembler.samplePresence, h, if_true]

theorem Assembler.samplePresence_counts (h : level ≠ a.presence) (hrun : a.presenceRun < 49) :
    a.samplePresence level = { a with presenceRun := a.presenceRun + 1 } := by
  have hlimit : ¬ 50 ≤ a.presenceRun + 1 := by omega
  simp only [Assembler.samplePresence, h, Config.debounce, hlimit, if_false]

/-- The fiftieth disagreeing sample to ON changes the state and leaves the context alone. -/
theorem Assembler.samplePresence_rises (hoff : a.presence = false) (hrun : 49 ≤ a.presenceRun) :
    a.samplePresence true = { a with presence := true, presenceRun := 0 } := by
  have hlimit : 50 ≤ a.presenceRun + 1 := by omega
  simp only [Assembler.samplePresence, hoff, Config.debounce, hlimit, Bool.true_eq_false, Bool.false_eq_true, if_true, if_false]

/-- The fiftieth disagreeing sample to OFF changes the state, and the open vehicle notes it where a loop is fitted (R78). -/
theorem Assembler.samplePresence_falls (hon : a.presence = true) (hrun : 49 ≤ a.presenceRun) :
    a.samplePresence false = Assembler.presenceFell { a with presence := false, presenceRun := 0 } := by
  have hlimit : 50 ≤ a.presenceRun + 1 := by omega
  simp only [Assembler.samplePresence, hon, Config.debounce, hlimit, Bool.false_eq_true, if_true, if_false]

end

theorem exec_presenceSample (ln : LaneId) (level : Bool) (s : State) :
    exec (.presenceSample ln level) s = .next (s.setAsm ln ((s.asm ln).samplePresence level)) := rfl

/-! ## The statement -/

/-- Settles O24: the sample agrees, counts or changes the state; the change rises or falls, and only the fall reaches the context. -/
theorem presenceIsDebounced : Obligations.PresenceIsDebounced := by
  intro s ln level a
  rw [exec_presenceSample]
  refine ⟨fun h => ?agrees, fun h hrun => ?counts, fun h hrun => ?changes⟩
  case agrees => rw [Assembler.samplePresence_agrees h]
  case counts => rw [Assembler.samplePresence_counts h hrun]
  case changes =>
    cases level with
    | true =>
      have hoff : a.presence = false := Bool.eq_false_iff.2 h.symm
      rw [Assembler.samplePresence_rises hoff hrun]
      simp only [Bool.true_eq_false, false_and, if_false, a]
    | false =>
      have hon : a.presence = true := Bool.eq_true_of_not_eq_false h.symm
      rw [Assembler.samplePresence_falls hon hrun, Assembler.presenceFell_eq]
      simp only [true_and, a]

end Sys2Proof.Machine
end

section
/-! Wheel and axle loads (chapter 6): the load of a wheel through its stages and its limits, what a weighed axle forms from its
wheels, the marks of an axle, the axle entries of a completed record, and from these the statement about the weighing. -/

namespace Sys2Proof.Machine

/-! ## One wheel (R97, R98, R103, R104) -/

theorem weighWheel_load (p : PulseReport) (va nRef sch kv kt kd : Nat) :
    (weighWheel p va nRef sch kv kt kd).load =
      (let r := min 4294967295 (roundNat (p.area * va) nRef)
       let w0 := min 65535 (roundNat (r * sch) 16777216)
       let w1 := min 65535 (roundNat (w0 * kv) 16384)
       let w2 := min 65535 (roundNat (w1 * kt) 16384)
       min 32767 (min 65535 (roundNat (w2 * kd) 16384))) := rfl

/-- Stage 8 limits every wheel (R104). -/
theorem weighWheel_load_le (p : PulseReport) (va nRef sch kv kt kd : Nat) :
    (weighWheel p va nRef sch kv kt kd).load ≤ 32767 := by
  rw [weighWheel_load]
  exact Nat.min_le_left _ _

/-! ## The wheels of a side (R106, R108) -/

theorem wheelOr0_map {α : Type} (f : α → Wheel) (p : Option α) :
    wheelOr0 (p.map f) = (p.map fun x => (f x).load).getD 0 := by
  cases p <;> rfl

theorem wheelOr0_map_le {α : Type} {f : α → Wheel} {n : Nat} (h : ∀ x, (f x).load ≤ n) (p : Option α) :
    wheelOr0 (p.map f) ≤ n := by
  cases p with
  | none => exact Nat.zero_le n
  | some x => exact h x

theorem reportedWheel_none_right (w : Option Wheel) : reportedWheel w none = wheelOr0 w := by
  cases w <;> rfl

theorem reportedWheel_none_left (w : Option Wheel) : reportedWheel none w = wheelOr0 w := by
  cases w <;> rfl

/-- The mean of two wheels, or the sum with the absent ones as 0. -/
theorem reportedWheel_map {α : Type} (f : α → Wheel) (p q : Option α) [Decidable (p = none ∨ q = none)] :
    reportedWheel (p.map f) (q.map f) =
      if p = none ∨ q = none then wheelOr0 (p.map f) + wheelOr0 (q.map f)
      else roundNat (wheelOr0 (p.map f) + wheelOr0 (q.map f)) 2 := by
  cases p with
  | none => simp [reportedWheel_none_left, wheelOr0]
  | some x =>
    cases q with
    | none => simp [reportedWheel_none_right, wheelOr0]
    | some y => simp [reportedWheel, wheelOr0]

/-- A rounded mean does not pass what neither number passes. -/
theorem roundNat_mean_le {a b n : Nat} (ha : a ≤ n) (hb : b ≤ n) : roundNat (a + b) 2 ≤ n := by
  unfold roundNat; omega

theorem reportedWheel_le {w1 w2 : Option Wheel} {n : Nat} (h1 : wheelOr0 w1 ≤ n) (h2 : wheelOr0 w2 ≤ n) :
    reportedWheel w1 w2 ≤ n := by
  cases w1 with
  | none => rwa [reportedWheel_none_left]
  | some a =>
    cases w2 with
    | none => rwa [reportedWheel_none_right]
    | some b => exact roundNat_mean_le h1 h2

theorem WheelPair.rowLoad_le {r : WheelPair} (h : wheelOr0 r.left ≤ 32767 ∧ wheelOr0 r.right ≤ 32767) :
    r.rowLoad ≤ 65534 :=
  Nat.add_le_add h.1 h.2

/-! ## What a weighed axle forms from its rows (R107, R108) -/

section
variable {a : WeighedAxle} {r r' : WheelPair}

theorem WeighedAxle.loads_both (h1 : a.row1 = some r) (h2 : a.row2 = some r') :
    a.load = roundNat (r.rowLoad + r'.rowLoad) 2 ∧ a.left = reportedWheel r.left r'.left ∧
      a.right = reportedWheel r.right r'.right := by
  simp only [WeighedAxle.load, WeighedAxle.left, WeighedAxle.right, h1, h2, Option.bind_some, and_self]

theorem WeighedAxle.loads_row1 (h1 : a.row1 = some r) (h2 : a.row2 = none) :
    a.load = r.rowLoad ∧ a.left = wheelOr0 r.left ∧ a.right = wheelOr0 r.right := by
  simp only [WeighedAxle.load, WeighedAxle.left, WeighedAxle.right, h1, h2, Option.bind_some, Option.bind_none,
    reportedWheel_none_right, and_self]

theorem WeighedAxle.loads_row2 (h1 : a.row1 = none) (h2 : a.row2 = some r) :
    a.load = r.rowLoad ∧ a.left = wheelOr0 r.left ∧ a.right = wheelOr0 r.right := by
  simp only [WeighedAxle.load, WeighedAxle.left, WeighedAxle.right, h1, h2, Option.bind_some, Option.bind_none,
    reportedWheel_none_left, and_self]

end

/-- Every wheel of the axle is within the wheel limit (R104). -/
def WeighedAxle.Limited (a : WeighedAxle) : Prop :=
  ∀ r, a.row1 = some r ∨ a.row2 = some r → wheelOr0 r.left ≤ 32767 ∧ wheelOr0 r.right ≤ 32767

theorem wheelOr0_bind_le {row : Option WheelPair} {side : WheelPair → Option Wheel} {n : Nat}
    (h : ∀ r, row = some r → wheelOr0 (side r) ≤ n) : wheelOr0 (row.bind side) ≤ n := by
  cases row with
  | none => exact Nat.zero_le n
  | some r => exact h r rfl

section
variable {a : WeighedAxle}

theorem WeighedAxle.Limited.load_le (h : a.Limited) : a.load ≤ 65534 := by
  unfold WeighedAxle.load
  split
  · next h1 h2 => exact roundNat_mean_le (WheelPair.rowLoad_le (h _ (.inl h1))) (WheelPair.rowLoad_le (h _ (.inr h2)))
  · next h1 _ => exact WheelPair.rowLoad_le (h _ (.inl h1))
  · next _ h2 => exact WheelPair.rowLoad_le (h _ (.inr h2))
  · exact Nat.zero_le _

theorem WeighedAxle.Limited.left_le (h : a.Limited) : a.left ≤ 32767 :=
  reportedWheel_le (wheelOr0_bind_le fun r hr => (h r (.inl hr)).1) (wheelOr0_bind_le fun r hr => (h r (.inr hr)).1)

theorem WeighedAxle.Limited.right_le (h : a.Limited) : a.right ≤ 32767 :=
  reportedWheel_le (wheelOr0_bind_le fun r hr => (h r (.inl hr)).2) (wheelOr0_bind_le fun r hr => (h r (.inr hr)).2)

end

/-! ## Weighing a crossing and an axle (R95, R96, R106) -/

theorem weighCrossing_limited (set : TableSet) (va nRef kv kt kd : Nat) (c : Crossing) :
    wheelOr0 (weighCrossing set va nRef kv kt kd c).left ≤ 32767 ∧
      wheelOr0 (weighCrossing set va nRef kv kt kd c).right ≤ 32767 :=
  ⟨wheelOr0_map_le (fun _ => weighWheel_load_le ..) _, wheelOr0_map_le (fun _ => weighWheel_load_le ..) _⟩

theorem weighAxle_limited (ctx : Context) (ln : LaneId) (speed : Option Nat) (nRef : Nat) (x : ContextAxle) :
    (weighAxle ctx ln speed nRef x).Limited := by
  intro r hr
  obtain ⟨c, -, rfl⟩ | ⟨c, -, rfl⟩ := hr.imp Option.map_eq_some_iff.1 Option.map_eq_some_iff.1
  · exact weighCrossing_limited ..
  · exact weighCrossing_limited ..

/-! ## The marks of an axle (R48) -/

theorem Axle.mem_crossings {a : Axle} {c : Crossing} : c ∈ a.crossings ↔ a.row1 = some c ∨ a.row2 = some c := by
  simp [Axle.crossings, Option.mem_toList]

theorem Crossing.single_iff (c : Crossing) : c.single = true ↔ c.left = none ∨ c.right = none := by
  simp [Crossing.single]

theorem Axle.straddle_iff (a : Axle) : a.straddle = true ↔ ∃ c ∈ a.crossings, c.straddle = true := by
  simp [Axle.straddle]

/-- A side lost to a channel out of service outweighs a missed wheel. -/
theorem Axle.singleMark_sideOut {a : Axle} {c : Crossing} (hc : c ∈ a.crossings) (hsingle : c.single = true)
    (hside : c.missingSide = true) : a.singleMark = .sideOut := by
  have hany : a.crossings.any (fun c => c.single && c.missingSide) = true :=
    List.any_eq_true.2 ⟨c, hc, by rw [hsingle, hside]; rfl⟩
  simp only [Axle.singleMark, hany, if_true]

theorem Axle.singleMark_of_no_sideOut {a : Axle} (h : ∀ c ∈ a.crossings, c.single = true → c.missingSide = false) :
    a.singleMark = if a.crossings.any Crossing.single then .wheelMissed else .clear := by
  have hnone : a.crossings.any (fun c => c.single && c.missingSide) = false := by
    rw [List.any_eq_false]
    intro c hc hboth
    obtain ⟨hsingle, hside⟩ := Bool.and_eq_true_iff.1 hboth
    exact Bool.false_ne_true ((h c hc hsingle).symm.trans hside)
  simp only [Axle.singleMark, hnone, Bool.false_eq_true, if_false]

theorem Axle.singleMark_wheelMissed {a : Axle} {c : Crossing}
    (h : ∀ c ∈ a.crossings, c.single = true → c.missingSide = false) (hc : c ∈ a.crossings) (hsingle : c.single = true) :
    a.singleMark = .wheelMissed := by
  rw [Axle.singleMark_of_no_sideOut h, List.any_eq_true.2 ⟨c, hc, hsingle⟩, if_pos rfl]

theorem Axle.singleMark_clear {a : Axle} (h : ∀ c ∈ a.crossings, ¬ c.single = true) : a.singleMark = .clear := by
  rw [Axle.singleMark_of_no_sideOut fun c hc hsingle => absurd hsingle (h c hc), List.any_eq_false.2 h, if_neg Bool.false_ne_true]

section
variable {a : Axle} {c c' : Crossing}

theorem Axle.rowMark_both (h1 : a.row1 = some c) (h2 : a.row2 = some c') : a.rowMark = .both := by
  simp only [Axle.rowMark, h1, h2]

theorem Axle.rowMark_row1 (h1 : a.row1 = some c) (h2 : a.row2 = none) : a.rowMark = .row1 := by
  simp only [Axle.rowMark, h1, h2]

theorem Axle.rowMark_row2 (h1 : a.row1 = none) : a.rowMark = .row2 := by
  simp only [Axle.rowMark, h1]

end

/-! ## The entries of a record (R90, R110) -/

/-- The speed Kv is taken at: the vehicle's, or the axle's own effective speed where the vehicle has none (R90, R100). -/
theorem Context.speed_getD (ctx : Context) (v : Nat) :
    ctx.speed.getD v =
      (let own := ctx.axles.filterMap fun y => y.axle.ownSpeed
       if own = [] then v else roundNat own.sum own.length) := by
  simp only [Context.speed, List.isEmpty_iff]
  split <;> rfl

theorem completeRecord_axles (tb : Timebase) (serial : Option Nat) (ln : LaneId) (ctx : Context) (tailgate timeout : Bool) :
    (completeRecord tb serial ln ctx tailgate timeout).axles =
      ctx.axles.map fun x => axleEntry x (weighAxle ctx ln ctx.speed tb.nRef x) := by
  simp only [completeRecord, List.zipWith_map_right, List.zipWith_self]

/-! ## The statement -/

/-- Settles O26: the entry is that of the weighed axle; its loads and row mark by which rows are present, its single-wheel mark by
which of its crossings have one wheel. -/
theorem axlesAreWeighed : Obligations.AxlesAreWeighed := by
  intro tb serial ln ctx tailgate timeout i x hx set own kv kt wheel side row both
  let weighed := weighAxle ctx ln ctx.speed tb.nRef x
  let pair := weighCrossing set x.eff tb.nRef kv kt ctx.kd
  have hspeed : speedFactor (ctx.generation.speedMm.get ln) (ctx.speed.getD x.eff) = kv := by
    rw [Context.speed_getD]
  have hrow1 : weighed.row1 = x.axle.row1.map pair := by simp only [weighed, weighAxle, hspeed, pair, set, kt]
  have hrow2 : weighed.row2 = x.axle.row2.map pair := by simp only [weighed, weighAxle, hspeed, pair, set, kt]
  have hleft (c : Crossing) : wheelOr0 (pair c).left = side c.left := wheelOr0_map _ c.left
  have hright (c : Crossing) : wheelOr0 (pair c).right = side c.right := wheelOr0_map _ c.right
  have hrow (c : Crossing) : (pair c).rowLoad = row c := congrArg₂ (· + ·) (hleft c) (hright c)
  have hlimited : weighed.Limited := weighAxle_limited ctx ln ctx.speed tb.nRef x
  refine ⟨fun c => hrow c ▸ WheelPair.rowLoad_le (weighCrossing_limited ..), axleEntry x weighed, ?entry,
    hlimited.load_le, hlimited.left_le, hlimited.right_le, rfl, rfl, ⟨?straddle, ?sideOut, ?wheelMissed, ?clear⟩,
    fun c1 c2 h1 h2 => ?both, fun c h1 h2 => ?row1, fun c h1 h2 => ?row2⟩
  case entry => rw [completeRecord_axles, List.getElem?_map, hx]; rfl
  case straddle => exact x.axle.straddle_iff.trans (exists_congr fun c => and_congr_left' Axle.mem_crossings)
  case sideOut =>
    rintro ⟨c, hc, hsingle, hside⟩
    exact Axle.singleMark_sideOut (Axle.mem_crossings.2 hc) (c.single_iff.2 hsingle) hside
  case wheelMissed =>
    rintro hno ⟨c, hc, hsingle⟩
    exact Axle.singleMark_wheelMissed
      (fun d hd hsd => hno d (Axle.mem_crossings.1 hd) (d.single_iff.1 hsd)) (Axle.mem_crossings.2 hc) (c.single_iff.2 hsingle)
  case clear =>
    exact fun hno => Axle.singleMark_clear fun c hc hsingle => hno c (Axle.mem_crossings.1 hc) (c.single_iff.1 hsingle)
  case both =>
    obtain ⟨hload, hl, hr⟩ := WeighedAxle.loads_both (hrow1.trans (congrArg _ h1)) (hrow2.trans (congrArg _ h2))
    rw [hrow, hrow] at hload
    refine ⟨hload, hl.trans ?_, hr.trans ?_, Axle.rowMark_both h1 h2⟩
    · simp only [both, ← hleft]
      exact reportedWheel_map _ c1.left c2.left
    · simp only [both, ← hright]
      exact reportedWheel_map _ c1.right c2.right
  case row1 =>
    obtain ⟨hload, hl, hr⟩ := WeighedAxle.loads_row1 (hrow1.trans (congrArg _ h1)) (hrow2.trans (congrArg _ h2))
    exact ⟨hload.trans (hrow c), hl.trans (hleft c), hr.trans (hright c), Axle.rowMark_row1 h1 h2⟩
  case row2 =>
    obtain ⟨hload, hl, hr⟩ := WeighedAxle.loads_row2 (hrow1.trans (congrArg _ h1)) (hrow2.trans (congrArg _ h2))
    exact ⟨hload.trans (hrow c), hl.trans (hleft c), hr.trans (hright c), Axle.rowMark_row2 h1⟩

end Sys2Proof.Machine
end

section
/-! The class and the enforcement flags of a closing vehicle (chapter 7, R115 to R117, R127 to R129): when a class rule fits, which
rule the search over the table finds, the record's judgements as those of its own axles, and from these the statement about the
class. -/

namespace Sys2Proof.Machine

/-! ## When a rule fits (R116) -/

theorem Bounds.holds_iff (b : Bounds) (n : Nat) : b.holds n = true ↔ b.min ≤ n ∧ n ≤ b.max := by
  rw [Bounds.holds, Bool.and_eq_true, decide_eq_true_eq, decide_eq_true_eq]

/-- A bound beyond the vehicle's last spacing is not met. -/
theorem spacingsFit_iff (bounds : List Bounds) (cm : List Nat) :
    spacingsFit bounds cm = true ↔
      ∀ (j : Nat) (b : Bounds), bounds[j]? = some b → ∃ d, cm[j]? = some d ∧ b.min ≤ d ∧ d ≤ b.max := by
  induction bounds generalizing cm with
  | nil => simp [spacingsFit]
  | cons b bs ih =>
    cases cm with
    | nil =>
      refine iff_of_false Bool.false_ne_true fun h => ?_
      obtain ⟨d, hd, -⟩ := h 0 b rfl
      cases hd
    | cons c cs =>
      rw [spacingsFit, Bool.and_eq_true, Bounds.holds_iff, ih]
      constructor
      · rintro ⟨hc, hcs⟩ (_ | j) b' hb'
        · cases hb'
          exact ⟨c, rfl, hc⟩
        · exact hcs j b' hb'
      · intro h
        refine ⟨?_, fun j b' hb' => h (j + 1) b' hb'⟩
        obtain ⟨d, hd, hbounds⟩ := h 0 b rfl
        cases hd
        exact hbounds

/-- A constraint that the rule does not hold is met by every vehicle. -/
theorem ClassRule.fits_iff (c : ClassRule) (count : Nat) (cm : List Nat) (gvw first : Nat) :
    c.fits count cm gvw first = true ↔
      c.axles.min ≤ count ∧ count ≤ c.axles.max ∧
      (∀ (j : Nat) (b : Bounds), c.spacings[j]? = some b → ∃ d, cm[j]? = some d ∧ b.min ≤ d ∧ d ≤ b.max) ∧
      (∀ b, c.gvw = some b → b.min ≤ gvw ∧ gvw ≤ b.max) ∧ (∀ m, c.minFirstAxle = some m → m ≤ first) := by
  simp only [ClassRule.fits, Bool.and_eq_true, Bounds.holds_iff, spacingsFit_iff, Option.all_eq_true, decide_eq_true_eq, and_assoc]

/-! ## The matched rule, its class and its limits (R117, R127, R128) -/

section
variable {rules : List (Option ClassRule)} {count : Nat} {cm : List Nat} {gvw first : Nat}

theorem matchedRule_eq_none (h : ∀ c, some c ∈ rules → ¬ c.fits count cm gvw first = true) :
    matchedRule rules count cm gvw first = none :=
  List.find?_eq_none.2 fun c hc => h c (by simpa using hc)

theorem matchedRule_eq_first {before after : List (Option ClassRule)} {c : ClassRule} (hsplit : rules = before ++ some c :: after)
    (hfits : c.fits count cm gvw first = true) (hbefore : ∀ d, some d ∈ before → ¬ d.fits count cm gvw first = true) :
    matchedRule rules count cm gvw first = some c := by
  have hnone : (before.filterMap id).find? (fun r => r.fits count cm gvw first) = none := matchedRule_eq_none hbefore
  have hcons : (some c :: after).filterMap id = c :: after.filterMap id := List.filterMap_cons_some rfl
  rw [matchedRule, hsplit, List.filterMap_append, List.find?_append, hnone, Option.none_or, hcons]
  exact List.find?_cons_of_pos hfits

end

section
variable (set : TableSet) (ln : LaneId) (rule : Option ClassRule) (cls gvw : Nat)

theorem enforcementOf_axleOver (axles : List AxleEntry) :
    (enforcementOf set ln rule cls gvw (axles.map AxleEntry.load)).axleOver = true ↔
      ∃ e ∈ axles, limitOf rule ClassRule.axleLimit set.site.axleLimit < e.load := by
  simp only [enforcementOf, List.any_map, List.any_eq_true, Function.comp_apply, decide_eq_true_eq]

variable (loads : List Nat)

theorem enforcementOf_gvwOver :
    (enforcementOf set ln rule cls gvw loads).gvwOver = true ↔ limitOf rule ClassRule.gvwLimit set.site.gvwLimit < gvw := by
  simp only [enforcementOf, decide_eq_true_eq]

theorem enforcementOf_laneBanned :
    (enforcementOf set ln rule cls gvw loads).laneBanned = true ↔ (set.lanes.get ln).permit.getLsbD cls = false := by
  simp only [enforcementOf, Bool.not_eq_true']

end

/-! ## The record judged by its own axles (R90, R115) -/

/-- The rule that a table finds for a vehicle as its record shows it: its axles, their loads and the spacings between them. -/
def VehicleRecord.ruleIn (r : VehicleRecord) (rules : List (Option ClassRule)) : Option ClassRule :=
  matchedRule rules r.axles.length ((r.axles.filterMap AxleEntry.spacing).map fun mm => roundNat mm 10) r.gvw
    ((r.axles.head?.map AxleEntry.load).getD 0)

section
variable (tb : Timebase) (serial : Option Nat) (ln : LaneId) (ctx : Context) (tailgate timeout : Bool)

theorem completeRecord_spacings :
    (completeRecord tb serial ln ctx tailgate timeout).axles.filterMap AxleEntry.spacing =
      ctx.axles.filterMap ContextAxle.spacing := by
  rw [completeRecord_axles, List.filterMap_map]
  rfl

theorem completeRecord_loads :
    (completeRecord tb serial ln ctx tailgate timeout).axles.map AxleEntry.load =
      (ctx.axles.map (weighAxle ctx ln ctx.speed tb.nRef)).map WeighedAxle.load := by
  rw [completeRecord_axles, List.map_map, List.map_map]
  rfl

/-- The record's axles find the rule that the close found from the context and the weighed axles. -/
theorem completeRecord_ruleIn (rules : List (Option ClassRule)) :
    let weighed := ctx.axles.map (weighAxle ctx ln ctx.speed tb.nRef)
    (completeRecord tb serial ln ctx tailgate timeout).ruleIn rules =
      matchedRule rules ctx.axles.length ((ctx.axles.filterMap ContextAxle.spacing).map toCm) (gross weighed)
        ((weighed.map WeighedAxle.load).headD 0) := by
  intro weighed
  have hlength : (completeRecord tb serial ln ctx tailgate timeout).axles.length = ctx.axles.length := by
    rw [completeRecord_axles, List.length_map]
  rw [VehicleRecord.ruleIn, hlength, completeRecord_spacings, ← List.head?_map, completeRecord_loads,
    ← List.headD_eq_head?_getD]
  rfl

/-- The class is the code of the rule the record's own axles find. -/
theorem completeRecord_cls :
    let r := completeRecord tb serial ln ctx tailgate timeout
    r.cls = classOf (r.ruleIn ctx.generation.set.classes) :=
  congrArg classOf (completeRecord_ruleIn ..).symm

/-- The flags judge the record's own loads under that rule. -/
theorem completeRecord_flags :
    let r := completeRecord tb serial ln ctx tailgate timeout
    r.flags = enforcementOf ctx.generation.set ln (r.ruleIn ctx.generation.set.classes) r.cls r.gvw
      (r.axles.map AxleEntry.load) := by
  intro r
  rw [completeRecord_loads, completeRecord_ruleIn]
  rfl

end

/-! ## The statement -/

/-- Settles O29: the search over the table finds the first rule that fits, or none; class and limits are those of what it finds. -/
theorem classIsFirstFit : Obligations.ClassIsFirstFit := by
  intro tb serial ln ctx tailgate timeout r set cm first fits flagged
  have hflags : r.flags = enforcementOf set ln (r.ruleIn set.classes) r.cls r.gvw (r.axles.map AxleEntry.load) :=
    completeRecord_flags ..
  have hfound (rule : Option ClassRule) (hrule : r.ruleIn set.classes = rule) :
      r.cls = classOf rule ∧
        flagged (limitOf rule ClassRule.axleLimit set.site.axleLimit) (limitOf rule ClassRule.gvwLimit set.site.gvwLimit) := by
    subst hrule
    refine ⟨completeRecord_cls .., ?_, ?_⟩
    · rw [hflags]
      exact enforcementOf_axleOver ..
    · rw [hflags]
      exact enforcementOf_gvwOver ..
  have hfits (c : ClassRule) : c.fits r.axles.length cm r.gvw first = true ↔ fits c := c.fits_iff ..
  refine ⟨fun before c after hsplit hc hbefore => ?fitting, fun hno => ?noRule, ?banned⟩
  case fitting =>
    exact hfound (some c) <|
      matchedRule_eq_first hsplit ((hfits c).2 hc) fun d hd => (hfits d).not.2 (hbefore d hd)
  case noRule => exact hfound none <| matchedRule_eq_none fun c hc => (hfits c).not.2 (hno c hc)
  case banned => exact enforcementOf_laneBanned ..

end Sys2Proof.Machine
end

section
/-! The quality of a closing vehicle (chapter 7, R118 to R124): when each of the nine checks fails, when a wheel's load is offscale,
and from these the statement about the quality. -/

namespace Sys2Proof.Machine

/-! ## The checks on the axles as matched (checks 2, 3 and 6; R48) -/

theorem Axle.singleMark_ne_clear_iff (a : Axle) : a.singleMark ≠ .clear ↔ ∃ c ∈ a.crossings, c.single = true := by
  unfold Axle.singleMark
  split
  · next hside =>
    obtain ⟨c, hc, hboth⟩ := List.any_eq_true.1 hside
    exact iff_of_true nofun ⟨c, hc, (Bool.and_eq_true_iff.1 hboth).1⟩
  · split
    · next hsingle => exact iff_of_true nofun (List.any_eq_true.1 hsingle)
    · next hno => exact iff_of_false (fun h => h rfl) fun hsingle => hno (List.any_eq_true.2 hsingle)

theorem Axle.rowMark_ne_both_iff (a : Axle) : a.rowMark ≠ .both ↔ a.row1 = none ∨ a.row2 = none := by
  unfold Axle.rowMark
  split
  · next h1 h2 => simp [h1, h2]
  · next h1 h2 => simp [h2]
  · next h1 => simp [h1]

theorem any_singleMark_iff (axles : List ContextAxle) :
    (axles.map ContextAxle.axle).any (fun a => a.singleMark ≠ .clear) = true ↔
      ∃ x ∈ axles, ∃ c, (x.axle.row1 = some c ∨ x.axle.row2 = some c) ∧ (c.left = none ∨ c.right = none) := by
  simp only [List.any_map, List.any_eq_true, Function.comp_apply, decide_eq_true_eq, Axle.singleMark_ne_clear_iff,
    Axle.mem_crossings, Crossing.single_iff]

theorem any_straddle_iff (axles : List ContextAxle) :
    (axles.map ContextAxle.axle).any Axle.straddle = true ↔
      ∃ x ∈ axles, ∃ c, (x.axle.row1 = some c ∨ x.axle.row2 = some c) ∧ c.straddle = true := by
  simp only [List.any_map, List.any_eq_true, Function.comp_apply, Axle.straddle_iff, Axle.mem_crossings]

theorem any_rowMark_iff (axles : List ContextAxle) :
    (axles.map ContextAxle.axle).any (fun a => a.rowMark ≠ .both) = true ↔
      ∃ x ∈ axles, x.axle.row1 = none ∨ x.axle.row2 = none := by
  simp only [List.any_map, List.any_eq_true, Function.comp_apply, decide_eq_true_eq, Axle.rowMark_ne_both_iff]

/-! ## The checks on the speeds (checks 4 and 5; R120, R121) -/

/-- The vehicle has a speed just when one of its axles has its own (R90). -/
theorem Context.speed_eq (ctx : Context) :
    ctx.speed =
      (let own := ctx.axles.filterMap fun y => y.axle.ownSpeed
       if own = [] then none else some (roundNat own.sum own.length)) := by
  simp only [Context.speed, List.isEmpty_iff]

theorem speedInRange_none (lane : LaneItem) : speedInRange lane none = false := rfl

theorem speedInRange_some (lane : LaneItem) (v : Nat) :
    speedInRange lane (some v) = false ↔ v < roundNat (lane.validLow * 10000) 36 ∨ roundNat (lane.validHigh * 10000) 36 < v := by
  rw [speedInRange, Option.any_some, Bool.and_eq_false_iff, decide_eq_false_iff_not, decide_eq_false_iff_not, Nat.not_le,
    Nat.not_le, kmhToMm, kmhToMm]

/-- An absent vehicle speed fails check 4 like one out of range. -/
theorem speedInRange_fails_iff (lane : LaneItem) (own : List Nat) (v : Nat) :
    (!speedInRange lane (if own = [] then none else some v)) = true ↔
      own = [] ∨ v < roundNat (lane.validLow * 10000) 36 ∨ roundNat (lane.validHigh * 10000) 36 < v := by
  rw [Bool.not_eq_true']
  by_cases h : own = []
  · simp only [h, if_true, speedInRange_none, true_or]
  · simp only [h, if_false, speedInRange_some, false_or]

/-- Check 5 has no speeds to compare where the vehicle has no speed. -/
theorem accelerates_iff (lane : LaneItem) (own : List Nat) (v : Nat) :
    accelerates lane own ((if own = [] then none else some v).getD 0) = true ↔
      ∃ first last, own.head? = some first ∧ own.getLast? = some last ∧
        lane.accelTol * v < ((last : Int) - first).natAbs * 1000 := by
  cases own with
  | nil => simp [accelerates]
  | cons first rest =>
    simp only [accelerates, decide_eq_true_eq, distNat_eq_natAbs, List.head?_cons, List.getLast?_cons, Option.some.injEq,
      exists_and_left, exists_eq_left', reduceCtorEq, if_false, Option.getD_some]

/-! ## The checks on the loads (checks 7 and 8; R105, R123) -/

theorem rowsDisagree_iff (lane : LaneItem) (a : WeighedAxle) :
    rowsDisagree lane a = true ↔
      ∃ p q, a.row1 = some p ∧ a.row2 = some q ∧ 0 < a.load ∧
        lane.rowTol * a.load < ((p.rowLoad : Int) - q.rowLoad).natAbs * 100 := by
  unfold rowsDisagree
  split
  · next p q h1 h2 =>
    simp only [h1, h2, Bool.and_eq_true, decide_eq_true_eq, distNat_eq_natAbs, Option.some.injEq, exists_and_left, exists_eq_left']
  · next hmissing =>
    refine iff_of_false Bool.false_ne_true ?_
    rintro ⟨p, q, h1, h2, -⟩
    exact hmissing p q h1 h2

theorem WheelPair.offscale_iff (p : WheelPair) :
    p.offscale = true ↔ ∃ w, (p.left = some w ∨ p.right = some w) ∧ w.offscale = true := by
  simp only [WheelPair.offscale, Bool.or_eq_true, Option.any_eq_true, or_and_right, exists_or]

theorem WeighedAxle.offscale_iff (a : WeighedAxle) :
    a.offscale = true ↔
      ∃ p w, (a.row1 = some p ∨ a.row2 = some p) ∧ (p.left = some w ∨ p.right = some w) ∧ w.offscale = true := by
  simp only [WeighedAxle.offscale, Bool.or_eq_true, Option.any_eq_true, WheelPair.offscale_iff, or_and_right, exists_or,
    exists_and_left]

theorem any_rowsDisagree_iff (lane : LaneItem) (weighed : List WeighedAxle) :
    weighed.any (rowsDisagree lane) = true ↔
      ∃ a ∈ weighed, ∃ p q, a.row1 = some p ∧ a.row2 = some q ∧ 0 < a.load ∧
        lane.rowTol * a.load < ((p.rowLoad : Int) - q.rowLoad).natAbs * 100 := by
  simp only [List.any_eq_true, rowsDisagree_iff]

theorem any_offscale_iff (weighed : List WeighedAxle) :
    weighed.any WeighedAxle.offscale = true ↔
      ∃ a ∈ weighed, ∃ p w, (a.row1 = some p ∨ a.row2 = some p) ∧ (p.left = some w ∨ p.right = some w) ∧
        w.offscale = true := by
  simp only [List.any_eq_true, WeighedAxle.offscale_iff]

theorem clampMark_value (cap n : Nat) : (clampMark cap n).1 = min cap n := rfl

theorem clampMark_met_iff (cap n : Nat) : (clampMark cap n).2 = true ↔ cap < n := decide_eq_true_iff

/-- A wheel is offscale when its pulse was clipped, its area stands at the cap, or a stage met its limit. -/
theorem weighWheel_offscale_iff (p : PulseReport) (va nRef sch kv kt kd : Nat) :
    (weighWheel p va nRef sch kv kt kd).offscale = true ↔
      (let raw := roundNat (p.area * va) nRef
       let w0 := roundNat (min 4294967295 raw * sch) 16777216
       let w1 := roundNat (min 65535 w0 * kv) 16384
       let w2 := roundNat (min 65535 w1 * kt) 16384
       let w3 := roundNat (min 65535 w2 * kd) 16384
       p.clipped = true ∨ p.area = 2147483647 ∨ 4294967295 < raw ∨ 65535 < w0 ∨ 65535 < w1 ∨ 65535 < w2 ∨ 65535 < w3 ∨
         32767 < w3) := by
  have hlast (n : Nat) : 32767 < min 65535 n ↔ 32767 < n := by omega
  simp only [weighWheel, clampMark_value, clampMark_met_iff, scaleBy, Bool.or_eq_true, decide_eq_true_eq, or_assoc]
  simp only [Config.wordCap, Config.loadCap, Config.wheelCap, Config.areaCap, Config.sensitivityScale, Config.factorOne, hlast]

/-! ## The statement -/

/-- Settles O30: the checks of the close are those of the statement, and each clause takes the first that fails. -/
theorem qualityIsFirstFailure : Obligations.QualityIsFirstFailure := by
  intro tb serial ln ctx tailgate timeout r lane own speed weighed present check1 check2 check3 check4 check5 check6 check7 check8
    passed3 passed6
  have hspeed : ctx.speed = if own = [] then none else some speed := ctx.speed_eq
  have hquality : r.quality = qualityOf lane ctx (if own = [] then none else some speed) weighed := by
    simp only [weighed, ← hspeed]
    rfl
  have hown : (ctx.axles.map ContextAxle.axle).filterMap Axle.ownSpeed = own := List.filterMap_map ..
  classical
  have hchain : r.quality =
      if check1 then .fragment else if check2 then .incomplete else if check3 then .straddle
      else if check4 then .speedRange else if check5 then .acceleration else if check6 then .singleRow
      else if check7 then .rowDisagree else if check8 then .offscale else if ctx.split then .split else .good := by
    rw [hquality, qualityOf, hown, List.length_map]
    exact if_congr Iff.rfl rfl <| if_congr (any_singleMark_iff _) rfl <| if_congr (any_straddle_iff _) rfl <|
      if_congr (speedInRange_fails_iff lane own speed) rfl <| if_congr (accelerates_iff lane own speed) rfl <|
      if_congr (any_rowMark_iff _) rfl <| if_congr (any_rowsDisagree_iff lane weighed) rfl <|
      if_congr (any_offscale_iff weighed) rfl rfl
  refine ⟨fun h1 => ?fragment, fun h1 h2 => ?incomplete, fun h1 h2 h3 => ?straddle, fun ⟨h1, h2, h3⟩ h4 => ?speedRange,
    fun ⟨h1, h2, h3⟩ h4 h5 => ?acceleration, fun ⟨h1, h2, h3⟩ h4 h5 h6 => ?singleRow,
    fun ⟨⟨h1, h2, h3⟩, h4, h5, h6⟩ h7 => ?rowDisagree, fun ⟨⟨h1, h2, h3⟩, h4, h5, h6⟩ h7 h8 => ?offscale,
    fun ⟨⟨h1, h2, h3⟩, h4, h5, h6⟩ h7 h8 => ?passed, rfl, weighWheel_offscale_iff⟩
  case fragment => rw [hchain, if_pos h1]
  case incomplete => rw [hchain, if_neg h1, if_pos h2]
  case straddle => rw [hchain, if_neg h1, if_neg h2, if_pos h3]
  case speedRange => rw [hchain, if_neg h1, if_neg h2, if_neg h3, if_pos h4]
  case acceleration => rw [hchain, if_neg h1, if_neg h2, if_neg h3, if_neg h4, if_pos h5]
  case singleRow => rw [hchain, if_neg h1, if_neg h2, if_neg h3, if_neg h4, if_neg h5, if_pos h6]
  case rowDisagree => rw [hchain, if_neg h1, if_neg h2, if_neg h3, if_neg h4, if_neg h5, if_neg h6, if_pos h7]
  case offscale => rw [hchain, if_neg h1, if_neg h2, if_neg h3, if_neg h4, if_neg h5, if_neg h6, if_neg h7, if_pos h8]
  case passed => rw [hchain, if_neg h1, if_neg h2, if_neg h3, if_neg h4, if_neg h5, if_neg h6, if_neg h7, if_neg h8]

end Sys2Proof.Machine
end

section
/-! The drift tracker's feeds (chapter 8, R134 to R137): when a record is a feed and when its load lies outside the window, what
the update makes of a full batch, the three outcomes of a feed, and from these the statement about DRIFT_FEED. -/

namespace Sys2Proof.Machine

/-! ## The judgements of a feed (R134, R135) -/

theorem State.isFeed_iff (s : State) (r : VehicleRecord) :
    s.isFeed r = true ↔
      s.drift.policy.refClass ≠ 0 ∧ r.cls = s.drift.policy.refClass ∧ r.quality = .good ∧ r.conditions.tempHeld = false ∧
        (s.drift.lanes.get r.lane).frozen = false := by
  simp only [State.isFeed, Bool.and_eq_true, decide_eq_true_eq, Bool.not_eq_true', and_assoc]

theorem outsideWindow_iff (policy : DriftItem) (a1 : Nat) :
    outsideWindow policy a1 = true ↔ policy.window * policy.target < ((a1 : Int) - policy.target).natAbs * 100 := by
  rw [outsideWindow, decide_eq_true_eq, distNat_eq_natAbs]

theorem VehicleRecord.firstLoad_eq {r : VehicleRecord} {e : AxleEntry} {es : List AxleEntry} (h : r.axles = e :: es) :
    r.firstLoad = e.load := by
  rw [VehicleRecord.firstLoad, h]; rfl

/-! ## The update of a full batch (R136) -/

/-- The five steps of R136: the mean, its error, the gain's share, the limit of the step, and the factor within its range. -/
theorem DriftBand.update_eq (b : DriftBand) (policy : DriftItem) :
    b.update policy =
      (let mean := roundNat b.sum policy.batch
       let err := roundInt (16384 * ((policy.target : Int) - mean)) mean
       let limit : Int := roundNat (policy.maxStep * 16384) 1000
       let step := max (-limit) (min limit (roundInt (err * policy.gain) 256))
       { b with kd := max 12288 (min 20480 (roundInt (b.kd * (16384 + step)) 16384).toNat), sum := 0, n := 0 }) := by
  simp only [DriftBand.update, DriftBand.empty, stepKd, driftStep, driftError, clampNat, clampInt, Config.kdMin, Config.kdMax]

/-! ## The three outcomes of a feed (R135, R137) -/

section
variable {s : State} {ln : LaneId} {b : Band} {a1 : Nat}

theorem State.feed_rejected (h : outsideWindow s.drift.policy a1 = true) :
    s.feed ln b a1 = s.setDriftBand ln b
      { s.driftBand ln b with rejected := min 65535 ((s.driftBand ln b).rejected + 1) } := by
  simp only [State.feed, if_pos h, countUp, bump, Config.countCap]

theorem State.feed_joins (h : ¬ outsideWindow s.drift.policy a1 = true) (hroom : (s.driftBand ln b).n + 1 < s.drift.policy.batch) :
    s.feed ln b a1 = s.setDriftBand ln b ((s.driftBand ln b).accept a1) := by
  have hopen : ¬ s.drift.policy.batch ≤ ((s.driftBand ln b).accept a1).n := Nat.not_le.2 hroom
  simp only [State.feed, if_neg h, if_neg hopen]

theorem State.feed_fills (h : ¬ outsideWindow s.drift.policy a1 = true) (hfull : s.drift.policy.batch ≤ (s.driftBand ln b).n + 1) :
    s.feed ln b a1 =
      (s.setDriftBand ln b (((s.driftBand ln b).accept a1).update s.drift.policy)).raise (.driftUpdated (oneBand ln b)) := by
  have hfilled : s.drift.policy.batch ≤ ((s.driftBand ln b).accept a1).n := hfull
  simp only [State.feed, if_neg h, if_pos hfilled]

end

/-! ## The command on the oldest record (R134) -/

theorem exec_driftFeed_none {s : State} (h : s.mail.toDrift = []) : exec .driftFeed s = .next s := by
  change execDriftFeed s = _
  rw [execDriftFeed, h]

/-- A record is taken from the mail, and judged when it is a feed. -/
theorem exec_driftFeed_cons {s : State} {r : VehicleRecord} {rest : List VehicleRecord} (h : s.mail.toDrift = r :: rest) :
    exec .driftFeed s = .next (
      if s.isFeed r then State.feed { s with mail := { s.mail with toDrift := rest } } r.lane (bandOf r.tw) r.firstLoad
      else { s with mail := { s.mail with toDrift := rest } }) := by
  change execDriftFeed s = _
  rw [execDriftFeed, h]

/-! ## The statement -/

/-- Settles O35: by whether the record is a feed, then by the window, then by whether it fills the batch. -/
theorem driftFeedJudged : Obligations.DriftFeedJudged := by
  intro s
  refine ⟨exec_driftFeed_none, fun r rest hmail => ?_⟩
  intro d s' isFeed b x
  have hexec := exec_driftFeed_cons hmail
  refine ⟨fun hno => ?notFeed, fun e es hfeed haxles => ?_⟩
  case notFeed => rw [hexec, if_neg ((s.isFeed_iff r).not.2 hno)]
  have hjudged : exec .driftFeed s = .next (s'.feed r.lane b e.load) := by
    rw [hexec, if_pos ((s.isFeed_iff r).2 hfeed), VehicleRecord.firstLoad_eq haxles]
  have hwindow := outsideWindow_iff d e.load
  refine ⟨fun hout => ?rejected, fun hin hroom => ?joins, fun hin hfull => ?fills⟩
  case rejected => exact hjudged.trans (congrArg _ (State.feed_rejected (hwindow.2 hout)))
  case joins => exact hjudged.trans (congrArg _ (State.feed_joins (hwindow.not.2 hin.not_gt) hroom))
  case fills =>
    intro mean err limit step kd
    have hupdate : (x.accept e.load).update d = { x with kd := kd, sum := 0, n := 0 } := (x.accept e.load).update_eq d
    have hfills : s'.feed r.lane b e.load =
        (s'.setDriftBand r.lane b ((x.accept e.load).update d)).raise (.driftUpdated (oneBand r.lane b)) :=
      State.feed_fills (hwindow.not.2 hin.not_gt) hfull
    rw [hjudged, hfills, hupdate]
    rfl

end Sys2Proof.Machine
end

section
/-! The staging set opened and dropped (R145, R148): what STAGE_DISCARD and STAGE_OPEN make of a state by whether staging is
closed, and from these the statement about STAGE_DISCARD. -/

namespace Sys2Proof.Machine

/-! ## The two requests by the staging state -/

section
variable {s : State} (tag : Byte)

theorem exec_stageDiscard_closed (h : s.tables.staging = none) :
    exec (.stageDiscard tag []) s = .next (s.answer 0x12 tag [] [codeNoStage]) := by
  change execStageDiscard tag [] s = _
  rw [execStageDiscard, h, if_neg (not_not.2 List.length_nil)]

theorem exec_stageDiscard_open {x : Staging} (h : s.tables.staging = some x) :
    exec (.stageDiscard tag []) s = .next ((s.setStaging none).answer 0x12 tag [] [codeOk]) := by
  change execStageDiscard tag [] s = _
  rw [execStageDiscard, h, if_neg (not_not.2 List.length_nil)]

theorem exec_stageOpen_closed (h : s.tables.staging = none) :
    exec (.stageOpen tag []) s = .next ((s.setStaging (some s.tables.openCopy)).answer 0x10 tag []
      (codeOk :: optZero 2 s.tables.openCopy.source)) := by
  change execStageOpen tag [] s = _
  rw [execStageOpen, h, if_neg (not_not.2 List.length_nil)]

end

theorem TableStore.openCopy_active {t : TableStore} {g : Generation} (h : t.active = some g) :
    t.openCopy = { set := g.set, source := some g.number } := by
  rw [TableStore.openCopy, h]

/-- STAGE_OPEN in CLOSED over an active generation: its set is staged with its number as the source (R145). -/
theorem exec_stageOpen_copies_active {s : State} {g : Generation} (tag : Byte) (hclosed : s.tables.staging = none)
    (hactive : s.tables.active = some g) :
    ∃ u, exec (.stageOpen tag []) s = .next u ∧
      u.tables = { s.tables with staging := some { set := g.set, source := some g.number } } := by
  refine ⟨_, exec_stageOpen_closed tag hclosed, ?_⟩
  rw [State.answer_tables, State.setStaging_tables, TableStore.openCopy_active hactive]

/-! ## The statement -/

/-- Settles O39: by the staging state; what the discard leaves is closed, over the same active generation, so a STAGE_OPEN copies
that generation. -/
theorem discardDropsStaging : Obligations.DiscardDropsStaging := by
  intro s tag
  refine ⟨fun hclosed => ?closed, fun x hopen => ?dropped⟩
  case closed => exact ⟨_, exec_stageDiscard_closed tag hclosed, s.answer_only ..⟩
  case dropped =>
    exact ⟨_, exec_stageDiscard_open tag hopen, (s.setStaging none).answer_only ..,
      fun _ hactive => exec_stageOpen_copies_active tag rfl hactive⟩

end Sys2Proof.Machine
end

section
/-! The figures every step keeps in range: the timebase's rate and runs (R2, R3, R5, R7), the drift factors (R133), and the
selection of T_w (R68), each through the commands that reach its block. -/

namespace Sys2Proof.Machine

/-! ## The timebase (R2, R3, R5, R7) -/

/-- Only four fields of the timebase matter to its invariant. -/
theorem State.RateInv.of_tb {s t : State} (h : s.RateInv) (hrate : t.tb.nRef = s.tb.nRef) (hrun : t.tb.run = s.tb.run)
    (hreject : t.tb.rejectRun = s.tb.rejectRun) : t.RateInv := by
  simpa only [State.RateInv, hrate, hrun, hreject] using h

theorem State.enterLock_rate (s : State) (l : LockState) (h : s.RateInv) : (s.enterLock l).RateInv := by
  obtain ⟨hlo, hhi, -⟩ := h
  exact ⟨hlo, hhi, by simp, by simp, by simp⟩

theorem exec_rate (c : Instr) (s t : State) (h : s.RateInv) (he : exec c s = .next t) : t.RateInv := by
  rcases exec_tb c s t he with hsame | ⟨rate1, rate0, rfl⟩ | ⟨level, rfl⟩ | rfl | rfl | ⟨tag, body, rfl⟩ | ⟨tag, body, rfl⟩
  case inl => exact h.of_tb (by rw [hsame]) (by rw [hsame]) (by rw [hsame])
  case inr.inl =>
    injection he with he
    subst he
    simp [State.RateInv, State.reset, Timebase.start, Config.nominalRate]
  all_goals injection he with he; subst he
  case inr.inr.inl =>
    split
    · exact State.registerEdge_rate _ h
    · exact h
  case inr.inr.inr.inl =>
    split
    · exact s.enterLock_rate _ h
    · exact h
  case inr.inr.inr.inr.inl =>
    split
    · exact h.of_tb (by simp [State.secondBoundary_tb]) (by simp [State.secondBoundary_tb]) (by simp [State.secondBoundary_tb])
    · exact h
  case inr.inr.inr.inr.inr.inl => split <;> exact h
  case inr.inr.inr.inr.inr.inr => split <;> exact h

theorem State.idle_rate (s : State) (h : s.RateInv) : s.idle.RateInv := by
  rcases s.idle_cases with ⟨-, -, hidle⟩ | hidle
  all_goals rw [hidle]; exact h

/-! ## The drift factors (R133) -/

/-- A factor within 0.75 to 1.25. -/
def DriftBand.InRange (b : DriftBand) : Prop := Config.kdMin ≤ b.kd ∧ b.kd ≤ Config.kdMax

theorem State.factorInv_iff (s : State) : s.FactorInv ↔ ∀ ln b, (s.driftBand ln b).InRange := Iff.rfl

theorem State.driftBand_setDriftBand (s : State) (ln k : LaneId) (b c : Band) (x : DriftBand) :
    (s.setDriftBand ln b x).driftBand k c = if k = ln ∧ c = b then x else s.driftBand k c := by
  simp only [State.driftBand, State.setDriftBand, Four.get_set]
  by_cases hk : k = ln
  · subst hk
    by_cases hc : c = b
    · subst hc; simp
    · simp [hc, Eight.get_set_ne _ _ hc]
  · simp [hk]

theorem State.setDriftBand_factor (s : State) (ln : LaneId) (b : Band) (x : DriftBand) (h : s.FactorInv) (hx : x.InRange) :
    (s.setDriftBand ln b x).FactorInv := by
  intro k c
  rw [State.driftBand_setDriftBand]
  split
  · exact hx
  · exact h k c

theorem DriftBand.update_inRange (b : DriftBand) (policy : DriftItem) : (b.update policy).InRange :=
  clampNat_range (by decide) _

/-- Whatever comes of a feed, its band's factor is the one before or one just clamped. -/
theorem State.feed_factor (s : State) (ln : LaneId) (b : Band) (a1 : Nat) (h : s.FactorInv) : (s.feed ln b a1).FactorInv := by
  by_cases hout : outsideWindow s.drift.policy a1 = true
  · rw [State.feed_rejected hout]
    exact s.setDriftBand_factor ln b _ h (h ln b)
  · by_cases hfull : s.drift.policy.batch ≤ (s.driftBand ln b).n + 1
    · rw [State.feed_fills hout hfull]
      exact s.setDriftBand_factor ln b _ h (DriftBand.update_inRange _ _)
    · rw [State.feed_joins hout (Nat.lt_of_not_le hfull)]
      exact s.setDriftBand_factor ln b _ h (h ln b)

@[simp] theorem DriftTracker.mapBands_policy (d : DriftTracker) (f : DriftBand → DriftBand) : (d.mapBands f).policy = d.policy := rfl

@[simp] theorem DriftTracker.mapBands_get (d : DriftTracker) (f : DriftBand → DriftBand) (ln : LaneId) (b : Band) :
    (((d.mapBands f).lanes.get ln).bands).get b = f ((d.lanes.get ln).bands.get b) := by simp [DriftTracker.mapBands]

theorem DriftBand.start_inRange : DriftBand.start.InRange := by
  unfold DriftBand.InRange; decide

/-- A taken policy leaves each band as it is, empties it, or puts it at its start. -/
theorem DriftTracker.take_band (d : DriftTracker) (o : DriftOffer) (ln : LaneId) (b : Band) :
    let x := (d.lanes.get ln).bands.get b
    let y := ((d.take o).lanes.get ln).bands.get b
    y = x ∨ y = x.empty ∨ y = DriftBand.start := by
  unfold DriftTracker.take
  by_cases hreset : o.reset = true
  · simp [hreset]
  · by_cases hbatches : d.policy.rebatches o.policy = true
    · simp [hreset, hbatches]
    · simp [hreset, hbatches]

theorem DriftTracker.take_inRange (d : DriftTracker) (o : DriftOffer) (ln : LaneId) (b : Band)
    (h : ((d.lanes.get ln).bands.get b).InRange) : (((d.take o).lanes.get ln).bands.get b).InRange := by
  rcases d.take_band o ln b with hy | hy | hy
  all_goals rw [hy]
  · exact h
  · exact h
  · exact DriftBand.start_inRange

@[simp] theorem State.setFrozen_driftBand (s : State) (ln k : LaneId) (on : Bool) (b : Band) :
    (s.setFrozen ln on).driftBand k b = s.driftBand k b := by
  simp only [State.driftBand, State.setFrozen, Four.get_set]
  split <;> simp_all

theorem exec_factor (c : Instr) (s t : State) (h : s.FactorInv) (he : exec c s = .next t) : t.FactorInv := by
  rcases exec_drift c s t he with hsame | ⟨rate1, rate0, rfl⟩ | rfl | rfl | ⟨tag, body, rfl⟩ | ⟨tag, body, rfl⟩
  case inl => intro ln b; simpa only [State.driftBand, hsame] using h ln b
  all_goals injection he with he; subst he
  case inr.inl =>
    intro ln b
    have hstart : ∀ r : LineRate, ({ State.reset with pending := s.pending, link := Link.start r } : State).driftBand ln b
        = DriftBand.start := fun _ => by simp [State.driftBand, State.reset, DriftTracker.start]
    rw [hstart]
    exact DriftBand.start_inRange
  case inr.inr.inl =>
    split
    · exact h
    · split
      · exact State.feed_factor _ _ _ _ h
      · exact h
  case inr.inr.inr.inl =>
    split
    · exact h
    · exact fun ln b => DriftTracker.take_inRange _ _ ln b (h ln b)
  case inr.inr.inr.inr.inl =>
    split
    · exact h
    · split
      · dsimp only
        split
        · next hkd => exact State.setDriftBand_factor _ _ _ _ h ((within_iff _ _ _).1 hkd)
        · exact h
      · exact h
  case inr.inr.inr.inr.inr =>
    split
    · exact h
    · split
      · intro ln b
        exact (State.setFrozen_driftBand s _ ln _ b).symm ▸ h ln b
      · exact h

theorem State.idle_factor (s : State) (h : s.FactorInv) : s.idle.FactorInv := by
  rcases s.idle_cases with ⟨-, -, hidle⟩ | hidle
  all_goals rw [hidle]; exact h

/-! ## The selection (R68) -/

/-- A probe that is trusted for weighing has a smoothed value. -/
def Probe.Trusted (p : Probe) : Prop := p.usable = true → p.smoothed.isSome = true

/-- The selection, T_w and the held mark of a unit are those its probes give (R68). -/
def TempUnit.Selected (u : TempUnit) : Prop :=
  u.selection = u.choose.1 ∧ u.held = u.choose.2.isNone ∧ (∀ p, u.choose.2 = some p → p.smoothed = some u.tw) ∧
  ∀ p, (u.probes.get p).Trusted

theorem State.selectionInv_iff (s : State) : s.SelectionInv ↔ s.temp.Selected := Iff.rfl

/-- What is selected depends on the probes alone. -/
theorem TempUnit.choose_congr {u v : TempUnit} (h : v.probes = u.probes) : v.choose = u.choose := by
  simp only [TempUnit.choose, TempUnit.serving, h]

theorem TempUnit.Selected.congr {u v : TempUnit} (h : u.Selected) (hp : v.probes = u.probes) (hs : v.selection = u.selection)
    (ht : v.tw = u.tw) (hh : v.held = u.held) : v.Selected := by
  simpa only [TempUnit.Selected, TempUnit.choose_congr hp, hp, hs, ht, hh] using h

theorem Four.mem_toList {α : Type} {f : Four α} {x : α} : x ∈ f.toList ↔ ∃ i, f.get i = x := by
  constructor
  · intro h
    simp only [Four.toList, List.mem_cons, List.not_mem_nil, or_false] at h
    rcases h with rfl | rfl | rfl | rfl
    exacts [⟨0, rfl⟩, ⟨1, rfl⟩, ⟨2, rfl⟩, ⟨3, rfl⟩]
  · rintro ⟨i, rfl⟩
    fin_cases i <;> simp [Four.toList, Four.get]

theorem TempUnit.serving_usable {u : TempUnit} {r : Role} {p : Probe} (h : u.serving r = some p) :
    p.usable = true ∧ ∃ i, u.probes.get i = p := by
  have hprop := List.find?_some h
  rw [Bool.and_eq_true] at hprop
  exact ⟨hprop.2, Four.mem_toList.1 (List.mem_of_find?_eq_some h)⟩

theorem TempUnit.choose_usable {u : TempUnit} {p : Probe} (h : u.choose.2 = some p) :
    p.usable = true ∧ ∃ i, u.probes.get i = p := by
  unfold TempUnit.choose at h
  split at h
  · next hprimary => cases h; exact TempUnit.serving_usable hprimary
  · next halternate => cases h; exact TempUnit.serving_usable halternate
  · cases h

/-- Re-evaluation selects as R68 gives, whatever was selected before. -/
theorem TempUnit.reselect_selected (u : TempUnit) (h : ∀ p, (u.probes.get p).Trusted) : u.reselect.Selected := by
  have hchoose : u.reselect.choose = u.choose := TempUnit.choose_congr rfl
  refine ⟨by rw [hchoose]; rfl, by rw [hchoose]; rfl, fun p hp => ?_, h⟩
  rw [hchoose] at hp
  obtain ⟨husable, i, hi⟩ := TempUnit.choose_usable hp
  obtain ⟨v, hv⟩ := Option.isSome_iff_exists.1 (h i (hi ▸ husable))
  rw [hi] at hv
  simp [TempUnit.reselect, TempUnit.chosenTw, hp, hv]

@[simp] theorem State.reselect_temp (s : State) : s.reselect.temp = s.temp.reselect := by
  unfold State.reselect
  dsimp only
  split <;> rfl

@[simp] theorem State.putProbe_probes (s : State) (p : ProbeId) (x : Probe) :
    (s.putProbe p x).temp = { s.temp with probes := s.temp.probes.set p x } := by
  unfold State.putProbe
  dsimp only
  split <;> rfl

/-! What makes a probe trusted: entry to GOOD gives a smoothed value, and GOOD and SUSPECT keep it. -/

theorem Probe.trusted_of_failed {p : Probe} (h : p.state = .failed) : p.Trusted := by simp [Probe.Trusted, Probe.usable, h]

theorem Probe.trusted_of_seeding {p : Probe} (h : p.state = .seeding) : p.Trusted := by simp [Probe.Trusted, Probe.usable, h]

theorem Probe.trusted_of_absent {p : Probe} (h : p.state = .absent) : p.Trusted := by simp [Probe.Trusted, Probe.usable, h]

theorem Probe.trusted_of_smoothed {p : Probe} (h : p.smoothed.isSome = true) : p.Trusted := fun _ => h

theorem Probe.reject_trusted {p : Probe} {next : ProbeState} (h : next = .seeding ∨ p.smoothed.isSome = true) :
    (p.reject next).Trusted := by
  rw [Probe.reject_eq]
  split
  · exact Probe.trusted_of_failed rfl
  · rcases h with rfl | h
    · exact Probe.trusted_of_seeding rfl
    · exact Probe.trusted_of_smoothed h

theorem Probe.track_trusted {p : Probe} (h : p.smoothed.isSome = true) (t : Int) (q jump : Nat) : (p.track t q jump).Trusted := by
  unfold Probe.track
  dsimp only
  split
  · exact Probe.trusted_of_smoothed rfl
  · exact Probe.reject_trusted (.inr h)

theorem Probe.recover_trusted {p : Probe} (h : p.state = .failed) (t : Int) (jump : Nat) : (p.recover t jump).Trusted := by
  unfold Probe.recover
  split
  · exact Probe.trusted_of_failed h
  · split
    · split
      · exact Probe.trusted_of_smoothed rfl
      · exact Probe.trusted_of_failed h
    · exact Probe.trusted_of_failed h

theorem Probe.judge_trusted {p : Probe} (h : p.Trusted) (r : Reading) (q jump : Nat) : (p.judge r q jump).Trusted := by
  have tracking : p.state = .good ∨ p.state = .suspect → (p.judge r q jump).Trusted := by
    intro hstate
    have hsmoothed : p.smoothed.isSome = true := h (by rcases hstate with hs | hs <;> simp [Probe.usable, hs])
    cases r with
    | temp t => rw [Probe.judge_tracking_temp q jump hstate]; exact Probe.track_trusted hsmoothed t q jump
    | outOfRange => rw [Probe.judge_tracking_outOfRange q jump hstate]; exact Probe.reject_trusted (.inr hsmoothed)
    | noSignal => rw [Probe.judge_noSignal q jump (.inr hstate)]; exact Probe.trusted_of_failed rfl
  cases hstate : p.state with
  | absent => rw [Probe.judge_absent q jump hstate]; exact h
  | good => exact tracking (.inl hstate)
  | suspect => exact tracking (.inr hstate)
  | seeding =>
    cases r with
    | temp t => rw [Probe.judge_seeding_temp q jump hstate]; exact Probe.trusted_of_smoothed rfl
    | outOfRange => rw [Probe.judge_seeding_outOfRange q jump hstate]; exact Probe.reject_trusted (.inl rfl)
    | noSignal => rw [Probe.judge_noSignal q jump (.inl hstate)]; exact Probe.trusted_of_failed rfl
  | failed =>
    cases r with
    | temp t => rw [Probe.judge_failed_temp q jump hstate]; exact Probe.recover_trusted hstate t jump
    | outOfRange => rw [Probe.judge_failed_outOfRange q jump hstate]; exact Probe.trusted_of_failed hstate
    | noSignal => rw [Probe.judge_failed_noSignal q jump hstate]; exact Probe.trusted_of_failed hstate

theorem Probe.takeItem_trusted {p : Probe} (h : p.Trusted) (item : ProbeItem) : (p.takeItem item).Trusted := by
  unfold Probe.takeItem
  dsimp only
  split
  · split
    · exact h
    · exact Probe.trusted_of_seeding rfl
  · split
    · exact Probe.trusted_of_absent rfl
    · split
      · exact h
      · exact Probe.trusted_of_seeding rfl

/-- Every probe of the unit is trusted or not usable. -/
def TempUnit.AllTrusted (u : TempUnit) : Prop := ∀ p, (u.probes.get p).Trusted

theorem State.putProbe_trusted {s : State} (h : s.temp.AllTrusted) (p : ProbeId) {x : Probe} (hx : x.Trusted) :
    (s.putProbe p x).temp.AllTrusted := by
  intro k
  simp only [State.putProbe_probes, Four.get_set]
  split
  · exact hx
  · exact h k

theorem State.putProbes_trusted {f : State → ProbeId → Probe} (hf : ∀ s p, s.temp.AllTrusted → (f s p).Trusted)
    (l : List ProbeId) (s : State) (h : s.temp.AllTrusted) : (l.foldl (fun s p => s.putProbe p (f s p)) s).temp.AllTrusted := by
  induction l generalizing s with
  | nil => exact h
  | cons p l ih => exact ih _ (State.putProbe_trusted h p (hf s p h))

theorem TempUnit.startGate_selected {u : TempUnit} (h : u.Selected) (p : Option ProbeId) (now : Tick) :
    (u.startGate p now).Selected := h.congr rfl rfl rfl rfl

theorem State.reselect_selection (s : State) (h : s.temp.AllTrusted) : s.reselect.SelectionInv := by
  rw [State.selectionInv_iff, State.reselect_temp]
  exact TempUnit.reselect_selected _ h

theorem State.gateAfterTake_selection (s : State) (h : s.SelectionInv) : s.gateAfterTake.SelectionInv := by
  unfold State.gateAfterTake
  split
  · exact TempUnit.startGate_selected h _ _
  · split
    · exact TempUnit.startGate_selected h _ _
    · exact h

/-! The count of a probe's edges has no part in the selection. -/

/-- A probe with its edge count left out. -/
def Probe.bare (p : Probe) : Probe := { p with edges := 0 }

theorem TempUnit.serving_bare (u : TempUnit) (r : Role) :
    (u.serving r).map Probe.bare = (u.probes.map Probe.bare).toList.find? fun p => p.role = r && p.usable := by
  have hlist : (u.probes.map Probe.bare).toList = u.probes.toList.map Probe.bare := rfl
  rw [hlist, List.find?_map]
  rfl

/-- Units whose probes differ in their edges alone select alike. -/
theorem TempUnit.choose_bare {u v : TempUnit} (h : v.probes.map Probe.bare = u.probes.map Probe.bare) :
    v.choose.1 = u.choose.1 ∧ v.choose.2.map Probe.bare = u.choose.2.map Probe.bare := by
  have hserving : ∀ r, (v.serving r).map Probe.bare = (u.serving r).map Probe.bare := fun r => by
    rw [TempUnit.serving_bare, TempUnit.serving_bare, h]
  have hprimary := hserving .primary
  have halternate := hserving .alternate
  unfold TempUnit.choose
  cases hv : v.serving .primary <;> cases hu : u.serving .primary
  case none.none =>
    cases hv' : v.serving .alternate <;> cases hu' : u.serving .alternate <;> simp_all
  all_goals simp_all

theorem TempUnit.Selected.of_bare {u v : TempUnit} (h : u.Selected) (hp : v.probes.map Probe.bare = u.probes.map Probe.bare)
    (hs : v.selection = u.selection) (ht : v.tw = u.tw) (hh : v.held = u.held) : v.Selected := by
  obtain ⟨hselection, hheld, htw, htrusted⟩ := h
  obtain ⟨hfirst, hsecond⟩ := TempUnit.choose_bare hp
  refine ⟨by rw [hs, hselection, hfirst], ?_, fun p hchosen => ?_, fun i => ?_⟩
  · rw [hh, hheld, ← Option.isNone_map (f := Probe.bare), ← hsecond, Option.isNone_map]
  · rw [hchosen] at hsecond
    obtain ⟨p', hp', hbare⟩ := Option.map_eq_some_iff.1 hsecond.symm
    have hsmoothed := congrArg Probe.smoothed hbare
    rw [ht, ← htw p' hp']
    exact hsmoothed.symm
  · have hi : (v.probes.get i).bare = (u.probes.get i).bare := by
      rw [← Four.get_map Probe.bare, hp, Four.get_map]
    have hsmoothed := congrArg Probe.smoothed hi
    have husable := congrArg Probe.usable hi
    exact fun husable' => hsmoothed.symm ▸ htrusted i (husable ▸ husable')

theorem State.probeEdge_selection (s : State) (p : ProbeId) (h : s.SelectionInv) :
    State.SelectionInv { s with temp := { s.temp with
      probes := s.temp.probes.set p { s.probe p with edges := (s.probe p).edges + 1 } } } := by
  refine TempUnit.Selected.of_bare (u := s.temp) h (Four.ext_get fun i => ?_) rfl rfl rfl
  simp only [Four.get_map, Four.get_set]
  split
  · next hi => subst hi; rfl
  · rfl

theorem TempUnit.start_selected : TempUnit.start.Selected := by
  have hprobes : ∀ p, TempUnit.start.probes.get p = Probe.start := Four.get_fill _
  refine ⟨by decide, by decide, fun p hp => ?_, fun p => ?_⟩
  · have hnone : TempUnit.start.choose.2 = none := by decide
    rw [hnone] at hp
    cases hp
  · rw [hprobes]
    exact Probe.trusted_of_absent rfl

theorem Probe.takeGate_trusted {p : Probe} (h : p.Trusted) (count nRef gate q jump : Nat) :
    (p.takeGate count nRef gate q jump).Trusted := by
  unfold Probe.takeGate
  exact Probe.judge_trusted (by exact h) _ _ _

theorem State.startGate_selection {s : State} (h : s.SelectionInv) (p : Option ProbeId) : (s.startGate p).SelectionInv :=
  TempUnit.startGate_selected h p s.tb.t

theorem State.endGate_selection (s : State) (g : Gate) (h : s.temp.AllTrusted) : (s.endGate g).SelectionInv := by
  unfold State.endGate
  exact State.startGate_selection (State.reselect_selection _
    (State.putProbe_trusted h _ (Probe.takeGate_trusted (h _) _ _ _ _ _))) _

theorem State.takeProbeSettings_selection (s : State) (set : TableSet) (h : s.temp.AllTrusted) :
    (s.takeProbeSettings set).SelectionInv :=
  State.gateAfterTake_selection _ (State.reselect_selection _
    (State.putProbes_trusted (f := fun s p => (s.probe p).takeItem (set.probes.get p))
      (fun _ p hall => Probe.takeItem_trusted (hall p) _) fours _ h))

theorem exec_selection (c : Instr) (s t : State) (h : s.SelectionInv) (he : exec c s = .next t) : t.SelectionInv := by
  have htrusted : s.temp.AllTrusted := h.2.2.2
  rcases exec_temp c s t he with hgate | ⟨rate1, rate0, rfl⟩ | rfl | rfl | ⟨tag, body, rfl⟩ | ⟨p, rfl⟩
  case inl =>
    exact TempUnit.Selected.congr h (by rw [hgate]) (by rw [hgate]) (by rw [hgate]) (by rw [hgate])
  all_goals injection he with he; subst he
  case inr.inl =>
    exact TempUnit.start_selected
  case inr.inr.inl =>
    split
    · exact h
    · exact s.endGate_selection _ htrusted
  case inr.inr.inr.inl =>
    split
    · exact h
    · exact State.takeProbeSettings_selection _ _ htrusted
  case inr.inr.inr.inr.inl =>
    split
    · exact h
    · split
      · exact h
      · split
        · exact State.reselect_selection _ (State.putProbe_trusted htrusted _ (Probe.trusted_of_seeding rfl))
        · exact h
  case inr.inr.inr.inr.inr => exact s.probeEdge_selection p h

theorem State.idle_selection (s : State) (h : s.SelectionInv) : s.idle.SelectionInv := by
  rcases s.idle_cases with ⟨-, -, hidle⟩ | hidle
  all_goals rw [hidle]; exact h

/-! ## The statement -/

/-- Settles O55: each of the three invariants is kept by every command and by the idle step, so by every step. -/
theorem stepsKeepFigures : Obligations.StepsKeepFigures := fun _ _ hstep =>
  ⟨fun h => step_keeps (fun _ _ hs => hs) (fun c s t => exec_rate c s t) State.idle_rate h hstep,
    fun h => step_keeps (fun _ _ hs => hs) (fun c s t => exec_factor c s t) State.idle_factor h hstep,
    fun h => step_keeps (fun _ _ hs => hs) (fun c s t => exec_selection c s t) State.idle_selection h hstep⟩

end Sys2Proof.Machine
end

section
/-! The channel units every step keeps in order (R24, R27, R29, R35): each command that reaches a unit puts back one that the laws of
units show to be in order. -/

namespace Sys2Proof.Machine

theorem ChannelUnit.isSome_of_failed {u : ChannelUnit} (h : u.Ok) (hf : u.service = .failed) : u.settings.isSome = true :=
  h.1 (by rw [hf]; decide)

theorem State.setUnit_ok (s : State) (ch : ChannelId) (u : ChannelUnit) (h : s.ChannelInv) (hu : u.Ok) :
    (s.setUnit ch u).ChannelInv := by
  intro c
  by_cases hc : c = ch
  · subst hc
    rw [State.unit_setUnit]
    exact hu
  · rw [State.unit_setUnit_ne s u hc]
    exact h c

theorem State.takeOverlong_ok (s : State) (ch : ChannelId) (h : s.ChannelInv) (ho : (s.unit ch).overdue = true) :
    (s.takeOverlong ch).ChannelInv := by
  have hu := ChannelUnit.overlongPulse_adopt_ok _ (h ch) (ChannelUnit.overdue_running _ (h ch) ho)
  unfold State.takeOverlong
  dsimp only
  split
  · exact State.channelInv_of_units (s.setUnit_ok ch _ h hu) fun _ => rfl
  · exact s.putUnit_ok ch _ h hu

@[simp] theorem State.sampleEvent_lanes (s : State) (ch : ChannelId) (e : SampleEvent) : (s.sampleEvent ch e).lanes = s.lanes := by
  unfold State.sampleEvent State.sendReport
  split
  · rfl
  · rfl
  · split <;> rfl

theorem State.takeSample_ok (s : State) (ch : ChannelId) (x : Code) (h : s.ChannelInv) : (s.takeSample ch x).ChannelInv := by
  unfold State.takeSample
  dsimp only
  split
  · exact h
  · next cfg _ =>
    split
    · next hr =>
      refine State.putUnit_ok _ ch _ (State.channelInv_of_units h fun c => ?_)
        (ChannelUnit.adoptIfQuiet_ok _ (ChannelUnit.take_ok _ cfg ch _ x (h ch) hr))
      simp only [State.unit, State.sampleEvent_lanes]
    · exact h

/-- Putting units back one after another, each in order by the state it is taken from. -/
theorem State.putUnits_ok {α : Type} {c : α → ChannelId} {f : State → α → ChannelUnit}
    (hf : ∀ (s : State) a, s.ChannelInv → (f s a).Ok) (l : List α) (s : State) (h : s.ChannelInv) :
    (l.foldl (fun s a => s.putUnit (c a) (f s a)) s).ChannelInv := by
  induction l generalizing s with
  | nil => exact h
  | cons a l ih => exact ih _ (s.putUnit_ok _ _ h (hf s a h))

theorem State.supervise_ok (s : State) (v : Supervision) (h : s.ChannelInv) : (s.supervise v).ChannelInv := by
  unfold State.supervise
  split
  · exact State.putUnits_ok (c := fun p => ⟨v.lane, p⟩) (f := fun s p => (s.unit ⟨v.lane, p⟩).judge v ⟨v.lane, p⟩)
      (fun s p h => ChannelUnit.judge_ok _ v _ (h _)) fours s h
  · exact h

theorem State.restartUnits_ok (s : State) (h : s.ChannelInv) : s.restartUnits.ChannelInv := by
  unfold State.restartUnits
  generalize allChannels = channels
  exact State.putUnits_ok (c := fun ch => ch) (f := fun s ch => (s.unit ch).restart.adopt)
    (fun _ ch h => ChannelUnit.adopt_ok _ (ChannelUnit.restart_ok _ (h ch))) channels s h

@[simp] theorem State.restartGate_lanes (s : State) : s.restartGate.lanes = s.lanes := by rw [State.restartGate_frame]

/-- A restart's state before its lanes adopt: units restarted, traffic, staging and capture gone (R184). -/
def State.emptied (s : State) : State :=
  { (s.restartUnits.discardTraffic.restartGate.setStaging none) with capture := CaptureUnit.start }

theorem State.restartBlocks_eq (s : State) :
    s.restartBlocks = (fours.foldl State.adopt s.emptied).freeRetiring.reopenTallies := by
  unfold State.restartBlocks State.emptied
  rfl

theorem State.emptied_lanes (s : State) : s.emptied.lanes = s.restartUnits.lanes.map Lane.restart := by
  unfold State.emptied
  generalize s.restartUnits = u
  simp only [State.setStaging_lanes, State.restartGate_lanes]
  rfl

@[simp] theorem State.reopenTallies_unit (s : State) (ch : ChannelId) : s.reopenTallies.unit ch = s.unit ch := rfl

/-- After its units a restart touches no unit: the lanes lose their traffic and adopt (R184). -/
theorem State.restartBlocks_unit (s : State) (ch : ChannelId) : s.restartBlocks.unit ch = s.restartUnits.unit ch := by
  rw [State.restartBlocks_eq, State.reopenTallies_unit,
    ((State.adopts_frame fours s.emptied).trans (State.freeRetiring_frame _)).units ch]
  simp only [State.unit, State.emptied_lanes, Four.get_map, Lane.restart]

theorem State.commit_unit (s : State) (set : TableSet) (reset : Bool) (ch : ChannelId) :
    (s.commit set reset).unit ch = (s.unit ch).receive (set.generation (nextGeneration s.tables.counter)) ch :=
  ((s.commit_frame set reset).units ch).trans (s.promote_unit set reset ch)

@[simp] theorem State.answer_unit (s : State) (kind tag : Byte) (body reply : List Byte) (ch : ChannelId) :
    (s.answer kind tag body reply).unit ch = s.unit ch := rfl

@[simp] theorem State.raise_unit (s : State) (n : Notice) (ch : ChannelId) : (s.raise n).unit ch = s.unit ch := rfl

theorem State.reset_unit (ch : ChannelId) : State.reset.unit ch = ChannelUnit.start := by
  simp [State.unit, State.reset, Lane.start]

theorem State.reset_channelInv : State.reset.ChannelInv := fun ch => by
  rw [State.reset_unit]; exact ChannelUnit.start_ok

theorem exec_channel (c : Instr) (s t : State) (h : s.ChannelInv) (he : exec c s = .next t) : t.ChannelInv := by
  rcases exec_unit c s t he with hsame | ⟨rate1, rate0, rfl⟩ | ⟨ch, x, rfl⟩ | ⟨ch, rfl⟩ | ⟨ch, rfl⟩ | rfl | ⟨tag, body, rfl⟩ |
    ⟨tag, body, rfl⟩ | ⟨tag, body, rfl⟩
  · exact State.channelInv_of_units h hsame
  · injection he with he
    subst he
    exact State.reset_channelInv
  · injection he with he
    subst he
    split
    · next ho => exact State.takeSample_ok _ ch x (s.takeOverlong_ok ch h ho)
    · exact s.takeSample_ok ch x h
  · injection he with he
    subst he
    split
    · next ho => exact s.takeOverlong_ok ch h ho
    · exact h
  · injection he with he
    subst he
    split
    · exact s.putUnit_ok ch _ h (ChannelUnit.adopt_ok _ (h ch))
    · exact h
  · injection he with he
    subst he
    split
    · exact h
    · exact State.supervise_ok _ _ h
  · rcases execRestart_cases he with ⟨-, rfl⟩ | ⟨-, rfl⟩
    · exact h
    · intro ch
      rw [State.raise_unit, State.answer_unit, State.restartBlocks_unit]
      exact s.restartUnits_ok h ch
  · injection he with he
    subst he
    split
    · exact h
    · split
      · exact h
      · split
        · next ch _ hf =>
          exact s.putUnit_ok ch _ h (ChannelUnit.restore_ok _ (ChannelUnit.isSome_of_failed (h ch) hf))
        · exact h
  · rcases execStageCommit_cases he with ⟨reply, rfl⟩ | ⟨x, reset, reply, -, -, -, -, rfl⟩
    · exact h
    · intro ch
      rw [State.answer_unit, State.commit_unit]
      exact h ch

theorem State.idle_channel (s : State) (h : s.ChannelInv) : s.idle.ChannelInv := by
  rcases s.idle_cases with ⟨-, -, hidle⟩ | hidle
  all_goals rw [hidle]; exact h

end Sys2Proof.Machine
end

section
/-! The lanes every step keeps in order (R39, R45, R53, R74, R76): what an adoption makes of a lane, that the matching of a pulse keeps
lanes in service with room in their lists and queues, and the commands that reach a lane. -/

namespace Sys2Proof.Machine

/-! ## What a lane's order speaks of -/

/-- Two states whose lanes have the same matchers and assemblers, with the same reports on their way to them. -/
structure LanesKept (s t : State) : Prop where
  asm : ∀ ln, t.asm ln = s.asm ln
  matcher : ∀ ln, t.matcher ln = s.matcher ln
  reports : t.mail.reports = s.mail.reports

theorem LanesKept.of_lanes {s t : State} (h : t.lanes = s.lanes) (hr : t.mail.reports = s.mail.reports) : LanesKept s t :=
  ⟨fun _ => by rw [State.asm, h]; rfl, fun _ => by rw [State.matcher, h]; rfl, hr⟩

theorem LanesKept.quiet {s t : State} (h : LanesKept s t) (ln : LaneId) : t.quiet ln = s.quiet ln := by
  simp only [State.quiet, h.asm, h.matcher, h.reports]

theorem LanesKept.laneInv {s t : State} (h : LanesKept s t) (hs : s.LaneInv) : t.LaneInv := fun ln => by
  simpa only [State.LaneOk, h.asm, h.matcher, h.quiet] using hs ln

/-- A lane is IN_SERVICE. -/
def State.Serving (s : State) (ln : LaneId) : Prop := (s.asm ln).service = .inService

theorem State.serving_or_quiet {s : State} (h : s.LaneInv) (ln : LaneId) : s.Serving ln ∨ s.quiet ln = true := by
  cases hservice : (s.asm ln).service with
  | inService => exact .inl hservice
  | out =>
    obtain ⟨-, -, -, -, hquiet, -, -⟩ := h ln
    exact .inr (hquiet hservice)

theorem State.quiet_iff (s : State) (ln : LaneId) :
    s.quiet ln = true ↔ (s.asm ln).context = none ∧ (s.matcher ln).queue = [] ∧ (s.matcher ln).list1 = [] ∧
      (s.matcher ln).list2 = [] ∧ ∀ r ∈ s.mail.reports, r.channel.lane ≠ ln := by
  simp [State.quiet, and_assoc]

/-- A lane of which something is held is in service. -/
theorem State.serving_of_list {s : State} (h : s.LaneInv) {ln : LaneId} {row : Row} (hl : (s.matcher ln).list row ≠ []) :
    s.Serving ln := by
  rcases State.serving_or_quiet h ln with hserving | hquiet
  · exact hserving
  · obtain ⟨-, -, hlist1, hlist2, -⟩ := (s.quiet_iff ln).1 hquiet
    cases row
    · exact absurd hlist1 hl
    · exact absurd hlist2 hl

/-! ## The lanes while pulses are matched -/

/-- The lanes are in order, some are in service, and some lists have room for an entry. -/
structure State.LanesOn (s : State) (on : LaneId → Prop) (room : LaneId → Row → Prop) : Prop where
  ok : s.LaneInv
  serving : ∀ ln, on ln → s.Serving ln
  free : ∀ ln row, room ln row → ((s.matcher ln).list row).length ≤ 3

section
variable {s t : State} {on : LaneId → Prop} {room : LaneId → Row → Prop} {ln : LaneId}

theorem State.LanesOn.kept (h : s.LanesOn on room) (k : LanesKept s t) : t.LanesOn on room where
  ok := k.laneInv h.ok
  serving := fun ln hon => by rw [State.Serving, k.asm]; exact h.serving ln hon
  free := fun ln row hr => by rw [k.matcher]; exact h.free ln row hr

/-- A serving lane is replaced by one that is in order; no other lane and no report is touched. -/
theorem State.LanesOn.update (h : s.LanesOn on room) (hasm : ∀ k ≠ ln, t.asm k = s.asm k)
    (hmatcher : ∀ k ≠ ln, t.matcher k = s.matcher k) (hreports : t.mail.reports = s.mail.reports) (hln : t.LaneOk ln)
    (hserving : t.Serving ln) (hlists : ∀ row, ((t.matcher ln).list row).length ≤ ((s.matcher ln).list row).length) :
    t.LanesOn on room where
  ok := fun k => by
    by_cases hk : k = ln
    · exact hk ▸ hln
    · have hquiet : t.quiet k = s.quiet k := by simp only [State.quiet, hasm k hk, hmatcher k hk, hreports]
      simpa only [State.LaneOk, hasm k hk, hmatcher k hk, hquiet] using h.ok k
  serving := fun k hon => by
    by_cases hk : k = ln
    · exact hk ▸ hserving
    · rw [State.Serving, hasm k hk]; exact h.serving k hon
  free := fun k row hr => by
    by_cases hk : k = ln
    · subst hk; exact (hlists row).trans (h.free k row hr)
    · rw [hmatcher k hk]; exact h.free k row hr

/-- A serving lane's matcher takes other lists, no longer than before, and a queue within its bound. -/
theorem State.LanesOn.setMatcher (h : s.LanesOn on room) (hon : on ln) {m : Matcher}
    (hlists : ∀ row, (m.list row).length ≤ ((s.matcher ln).list row).length) (hqueue : m.queue.length ≤ 8)
    (hwindows : m.windows = (s.matcher ln).windows) : (s.setMatcher ln m).LanesOn on room := by
  have hserving := h.serving ln hon
  obtain ⟨hlist1, hlist2, -, hiff, -, hworking, hwin⟩ := h.ok ln
  refine h.update (ln := ln) (fun k _ => by simp) (fun k hk => s.matcher_setMatcher_ne m hk) rfl ?_ ?_ (by simpa using hlists)
  · simp only [State.LaneOk, State.matcher_setMatcher, State.asm_setMatcher, hwindows]
    exact ⟨(hlists .one).trans hlist1, (hlists .two).trans hlist2, hqueue, hiff,
      fun hout => absurd (hserving.symm.trans hout) (by decide), hworking, hwin⟩
  · rw [State.Serving, State.asm_setMatcher]; exact hserving

/-- A serving lane's assembler takes another context, held speed or presence. -/
theorem State.LanesOn.setAsm (h : s.LanesOn on room) (hon : on ln) {a : Assembler} (hadopted : a.adopted = (s.asm ln).adopted)
    (hworking : a.working = (s.asm ln).working) (hservice : a.service = (s.asm ln).service) :
    (s.setAsm ln a).LanesOn on room := by
  have hserving := h.serving ln hon
  obtain ⟨hlist1, hlist2, hqueue, hiff, -, hsome, hwin⟩ := h.ok ln
  refine h.update (ln := ln) (fun k hk => s.asm_setAsm_ne a hk) (fun k _ => by simp) rfl ?_ ?_ (by simp)
  · simp only [State.LaneOk, State.matcher_setAsm, State.asm_setAsm, hadopted, hworking, hservice]
    exact ⟨hlist1, hlist2, hqueue, hiff, fun hout => absurd (hserving.symm.trans hout) (by decide), hsome, hwin⟩
  · rw [State.Serving, State.asm_setAsm, hservice]; exact hserving

/-! ## Adoption (R75, R76) -/

/-- What an adoption makes of the lanes: one takes the active generation's settings, service state and windows. -/
theorem State.adopt_lanes {g : Generation} (hg : s.tables.active = some g) (ln : LaneId) :
    (s.adopt ln).lanes = s.lanes.set ln { s.lanes.get ln with
      asm := (s.asm ln).adopt g (g.set.lanes.get ln)
      matcher := { s.matcher ln with windows := some (windowsOf (g.set.lanes.get ln) s.tb.nRef) } } := by
  have hout : ∀ (s : State), (s.captureLaneOut ln).lanes = s.lanes := fun s => by
    unfold State.captureLaneOut State.takeLaneOut
    split
    · rfl
    · split <;> rfl
  have hfree : ∀ (s : State), s.freeRetiring.lanes = s.lanes := fun s => by rw [State.freeRetiring_store]
  simp only [State.adopt, hg, State.raiseReported_lanes, hfree]
  split
  · rw [hout]; rfl
  · rfl

theorem State.adopt_none (hg : s.tables.active = none) (ln : LaneId) : s.adopt ln = s := by simp only [State.adopt, hg]

theorem State.adopt_reports (s : State) (ln : LaneId) : (s.adopt ln).mail.reports = s.mail.reports := by
  rw [(s.adopt_frame ln).mail]

section
variable {g : Generation} (hg : s.tables.active = some g)
include hg

theorem State.adopt_asm : (s.adopt ln).asm ln = (s.asm ln).adopt g (g.set.lanes.get ln) := by
  rw [State.asm, State.adopt_lanes hg, Four.get_set_same]

theorem State.adopt_asm_ne {k : LaneId} (hk : k ≠ ln) : (s.adopt ln).asm k = s.asm k := by
  rw [State.asm, State.adopt_lanes hg, Four.get_set_ne _ _ hk]; rfl

theorem State.adopt_matcher : (s.adopt ln).matcher ln =
    { s.matcher ln with windows := some (windowsOf (g.set.lanes.get ln) s.tb.nRef) } := by
  rw [State.matcher, State.adopt_lanes hg, Four.get_set_same]

theorem State.adopt_matcher_ne {k : LaneId} (hk : k ≠ ln) : (s.adopt ln).matcher k = s.matcher k := by
  rw [State.matcher, State.adopt_lanes hg, Four.get_set_ne _ _ hk]; rfl

end

/-- An adoption opens no vehicle and touches no list and no queue. -/
theorem State.adopt_quiet (s : State) (ln k : LaneId) : (s.adopt ln).quiet k = s.quiet k := by
  cases hg : s.tables.active with
  | none => rw [State.adopt_none hg]
  | some g =>
    by_cases hk : k = ln
    · subst hk
      simp only [State.quiet, State.adopt_asm hg, State.adopt_matcher hg, State.adopt_reports, Assembler.adopt]
    · simp only [State.quiet, State.adopt_asm_ne hg hk, State.adopt_matcher_ne hg hk, State.adopt_reports]

/-- A quiet lane stays in order when it adopts: OUT or IN_SERVICE as the new settings have it. -/
theorem State.adopt_laneInv (h : s.LaneInv) (hq : s.quiet ln = true) : (s.adopt ln).LaneInv := by
  cases hg : s.tables.active with
  | none => rwa [State.adopt_none hg]
  | some g =>
    intro k
    by_cases hk : k = ln
    · subst hk
      obtain ⟨hlist1, hlist2, hqueue, -, -, -, -⟩ := h k
      simp only [State.LaneOk, State.adopt_quiet, hq, State.adopt_asm hg, State.adopt_matcher hg]
      refine ⟨hlist1, hlist2, hqueue, ?_, fun _ => trivial, rfl, rfl⟩
      cases henabled : (g.set.lanes.get k).enabled <;> simp [Assembler.adopt, henabled]
    · simpa only [State.LaneOk, State.adopt_quiet, State.adopt_asm_ne hg hk, State.adopt_matcher_ne hg hk] using h k

theorem State.adoptIfQuiet_laneInv (s : State) (ln : LaneId) (h : s.LaneInv) : (s.adoptIfQuiet ln).LaneInv := by
  unfold State.adoptIfQuiet
  split
  · next hq =>
    rw [Bool.and_eq_true] at hq
    exact State.adopt_laneInv h hq.1
  · exact h

theorem State.settle_laneInv (s : State) (h : s.LaneInv) : s.settle.LaneInv := by
  rw [State.settle_eq]
  exact State.adoptIfQuiet_laneInv _ 3 (State.adoptIfQuiet_laneInv _ 2 (State.adoptIfQuiet_laneInv _ 1
    (State.adoptIfQuiet_laneInv _ 0 h)))

/-- The adoption within a split takes no lane out of service. -/
theorem State.LanesOn.adoptAtSplit (h : s.LanesOn on room) (ln : LaneId) : (s.adoptAtSplit ln).LanesOn on room := by
  unfold State.adoptAtSplit State.adoptIfQuiet
  split
  · next henabled =>
    split
    · next hq =>
      rw [Bool.and_eq_true] at hq
      obtain ⟨g, hg, henabled⟩ := (Option.any_eq_true _ _).1 henabled
      refine ⟨State.adopt_laneInv h.ok hq.1, fun k hon => ?_, fun k row hr => ?_⟩
      · by_cases hk : k = ln
        · subst hk
          simp only [State.Serving, State.adopt_asm hg, Assembler.adopt, henabled, if_true]
        · rw [State.Serving, State.adopt_asm_ne hg hk]; exact h.serving k hon
      · by_cases hk : k = ln
        · subst hk
          rw [State.adopt_matcher hg]
          cases row <;> exact h.free k _ hr
        · rw [State.adopt_matcher_ne hg hk]; exact h.free k row hr
    · exact h
  · exact h

/-! ## From an axle to a matched pulse -/

theorem State.captureOpen_lanes (s : State) (ln : LaneId) (time : Tick) : LanesKept s (s.captureOpen ln time) := by
  refine LanesKept.of_lanes ?_ (by rw [(s.captureOpen_frame ln time).mail])
  unfold State.captureOpen State.takeOpen
  dsimp only
  split
  · split
    · rfl
    · split <;> rfl
  · rfl

theorem State.LanesOn.openVehicle (h : s.LanesOn on room) (hon : on ln) (axle : Axle) (split : Bool) :
    (s.openVehicle ln axle split).LanesOn on room := by
  unfold State.openVehicle
  dsimp only
  split
  · exact h
  · exact (h.setAsm hon (by rfl) (by rfl) (by rfl)).kept (State.captureOpen_lanes _ _ _)

theorem State.LanesOn.close (h : s.LanesOn on room) (hon : on ln) (ctx : Context) (tailgate timeout : Bool) :
    (s.close ln ctx tailgate timeout).LanesOn on room := by
  unfold State.close
  exact (h.setAsm hon (a := { s.asm ln with context := none, heldSpeed := heldAfter (s.asm ln).heldSpeed ctx.speed }) rfl rfl
    rfl).kept (LanesKept.of_lanes rfl rfl)

theorem State.LanesOn.takeAxle (h : s.LanesOn on room) (hon : on ln) (axle : Axle) : (s.takeAxle ln axle).LanesOn on room := by
  unfold State.takeAxle
  split
  · exact h.openVehicle hon axle false
  · unfold State.nextAxle
    dsimp only
    split
    · exact ((h.close hon _ _ _).adoptAtSplit ln).openVehicle hon _ _
    · split
      · exact ((h.close hon _ _ _).adoptAtSplit ln).openVehicle hon _ _
      · exact h.setAsm hon rfl rfl rfl
  · exact h

theorem State.LanesOn.deliver (h : s.LanesOn on room) (hon : on ln) (axle : Axle) : (s.deliver ln axle).LanesOn on room := by
  obtain ⟨-, -, hqueue, -, -, -, -⟩ := h.ok ln
  exact (h.setMatcher hon (m := { s.matcher ln with mark := some (deliveredTime (s.matcher ln).mark axle.time) })
    (fun row => by cases row <;> exact Nat.le_refl _) hqueue rfl).takeAxle hon _

theorem insertBy_length {α : Type} (key : α → Tick) (x : α) (l : List α) : (insertBy key x l).length = l.length + 1 := by
  induction l with
  | nil => rfl
  | cons e es ih =>
    unfold insertBy
    split
    · simp [ih]
    · rfl

/-- The queue of a serving lane takes another value within its bound. -/
theorem State.LanesOn.setQueue (h : s.LanesOn on room) (hon : on ln) {q : List Crossing} (hq : q.length ≤ 8) :
    (s.setMatcher ln { s.matcher ln with queue := q }).LanesOn on room :=
  h.setMatcher hon (fun row => by cases row <;> exact Nat.le_refl _) hq rfl

theorem State.LanesOn.joinQueue (h : s.LanesOn on room) (hon : on ln) (c : Crossing) : (s.joinQueue ln c).LanesOn on room := by
  obtain ⟨-, -, hqueue, -, -, -, -⟩ := h.ok ln
  unfold State.joinQueue
  dsimp only
  split
  · exact h.setQueue hon (by simp [insertBy_length])
  · next head rest hq =>
    rw [hq, List.length_cons] at hqueue
    split
    · next hroom =>
      refine h.setQueue hon ?_
      rw [hq, List.length_cons, Config.pendingCapacity] at hroom
      rw [insertBy_length, hq, List.length_cons]
      omega
    · split
      · exact h.deliver hon _
      · exact (h.setQueue hon (by rw [insertBy_length]; omega)).deliver hon _

theorem State.LanesOn.judgeRow2 (h : s.LanesOn on room) (hon : on ln) (c : Crossing) : (s.judgeRow2 ln c).LanesOn on room := by
  obtain ⟨-, -, hqueue, -, -, -, -⟩ := h.ok ln
  unfold State.judgeRow2
  split
  · dsimp only
    split
    · exact h.deliver hon _
    · next head rest hq =>
      rw [hq, List.length_cons] at hqueue
      split
      · exact h.deliver hon _
      · exact (h.setQueue hon (by omega)).deliver hon _
  · exact h

theorem State.LanesOn.formCrossing (h : s.LanesOn on room) {c : Crossing} (hon : on c.lane) :
    (s.formCrossing c).LanesOn on room := by
  unfold State.formCrossing
  split
  · exact h.joinQueue hon c
  · exact h.judgeRow2 hon c

theorem Matcher.list_setList (m : Matcher) (row k : Row) (l : List PulseReport) :
    (m.setList row l).list k = if k = row then l else m.list k := by
  cases row <;> cases k <;> rfl

@[simp] theorem Matcher.setList_queue (m : Matcher) (row : Row) (l : List PulseReport) : (m.setList row l).queue = m.queue := by
  cases row <;> rfl

@[simp] theorem Matcher.setList_windows (m : Matcher) (row : Row) (l : List PulseReport) :
    (m.setList row l).windows = m.windows := by
  cases row <;> rfl

/-- An entry leaves a list. -/
theorem State.LanesOn.setHalfList (h : s.LanesOn on room) (hon : on ln) {row : Row} {l : List PulseReport}
    (hl : l.length ≤ ((s.matcher ln).list row).length) : (s.setHalfList ln row l).LanesOn on room := by
  obtain ⟨-, -, hqueue, -, -, -, -⟩ := h.ok ln
  refine h.setMatcher hon (fun k => ?_) (by simpa using hqueue) (by simp)
  rw [Matcher.list_setList]
  split
  · next hk => exact hk ▸ hl
  · exact Nat.le_refl _

/-- An entry joins a list that has room. -/
theorem State.LanesOn.joinList (h : s.LanesOn on room) (hon : on ln) {row : Row} (hroom : room ln row) (r : PulseReport) :
    (s.joinList ln row r).LaneInv := by
  have hserving := h.serving ln hon
  have hfree := h.free ln row hroom
  obtain ⟨hlist1, hlist2, hqueue, hiff, -, hworking, hwin⟩ := h.ok ln
  have hlists : ∀ k : Row, (((s.matcher ln).setList row (insertBy PulseReport.onset r ((s.matcher ln).list row))).list k).length ≤ 4 := by
    intro k
    rw [Matcher.list_setList]
    split
    · rw [insertBy_length]; omega
    · cases k <;> assumption
  have hln : (s.joinList ln row r).LaneOk ln := by
    simp only [State.LaneOk, State.joinList, State.setHalfList, State.matcher_setMatcher, State.asm_setMatcher,
      Matcher.setList_queue, Matcher.setList_windows]
    exact ⟨hlists .one, hlists .two, hqueue, hiff, fun hout => absurd (hserving.symm.trans hout) (by decide), hworking, hwin⟩
  intro k
  by_cases hk : k = ln
  · exact hk ▸ hln
  · have hm : (s.joinList ln row r).matcher k = s.matcher k := s.matcher_setMatcher_ne _ hk
    have ha : (s.joinList ln row r).asm k = s.asm k := s.asm_setMatcher ln k _
    have hquiet : (s.joinList ln row r).quiet k = s.quiet k := by
      simp only [State.quiet, hm, ha]; rfl
    simpa only [State.LaneOk, hm, ha, hquiet] using h.ok k

theorem takeFirst_length {α : Type} {p : α → Bool} {l : List α} {e : α} {rest : List α} (h : takeFirst p l = some (e, rest)) :
    l.length = rest.length + 1 := by
  induction l generalizing e rest with
  | nil => cases h
  | cons x xs ih =>
    unfold takeFirst at h
    split at h
    · cases h; rfl
    · obtain ⟨⟨y, ys⟩, hys, heq⟩ := Option.map_eq_some_iff.1 h
      cases heq
      simp [ih hys]

theorem State.LanesOn.mono {on' : LaneId → Prop} {room' : LaneId → Row → Prop} (h : s.LanesOn on room)
    (hon : ∀ k, on' k → on k) (hroom : ∀ k row, room' k row → room k row) : s.LanesOn on' room' :=
  ⟨h.ok, fun k hk => h.serving k (hon k hk), fun k row hr => h.free k row (hroom k row hr)⟩

/-- A lane found to be in service is counted among those that are. -/
theorem State.LanesOn.also (h : s.LanesOn on room) {other : LaneId} (ho : s.Serving other) :
    s.LanesOn (fun k => on k ∨ k = other) room :=
  ⟨h.ok, fun k hk => by rcases hk with hk | rfl; exacts [h.serving k hk, ho], h.free⟩

theorem State.straddlePartner_taken {row : Row} {r e : PulseReport} {other : LaneId} {rest : List PulseReport}
    (h : s.straddlePartner ln row r = some (other, e, rest)) :
    ∃ p, takeFirst p ((s.matcher other).list row) = some (e, rest) := by
  unfold State.straddlePartner at h
  split at h
  · cases h
  · split at h
    · cases h
    · obtain ⟨⟨x, xs⟩, hx, heq⟩ := Option.map_eq_some_iff.1 h
      cases heq
      exact ⟨_, hx⟩

theorem State.LanesOn.resolve (h : s.LanesOn on room) (hon : on ln) (row : Row) (r : PulseReport) :
    (s.resolve ln row r).LanesOn on room := by
  unfold State.resolve
  split
  · exact h.formCrossing hon
  · next other e rest hpartner =>
    obtain ⟨p, htaken⟩ := State.straddlePartner_taken hpartner
    have hlength := takeFirst_length htaken
    have hserving : s.Serving other := State.serving_of_list h.ok (row := row) (fun hnil => by rw [hnil] at htaken; cases htaken)
    have hlower : on (lowerLane ln other r.side) ∨ lowerLane ln other r.side = other := by
      unfold lowerLane
      split
      · exact .inl hon
      · exact .inr rfl
    refine (((h.also hserving).setHalfList (.inr rfl) (by omega)).formCrossing ?_).mono (fun k hk => .inl hk) fun _ _ hr => hr
    split <;> exact hlower

theorem State.holdPulse_laneInv (h : s.LanesOn on room) (hon : on ln) (row : Row) (r : PulseReport) :
    (s.holdPulse ln row r).LaneInv := by
  have hbound : ((s.matcher ln).list row).length ≤ 4 := by
    obtain ⟨hlist1, hlist2, -, -, -, -, -⟩ := h.ok ln
    cases row <;> assumption
  have withRoom : ∀ {s : State}, s.LanesOn on room → ((s.matcher ln).list row).length ≤ 3 →
      s.LanesOn on (fun k x => k = ln ∧ x = row) := fun hs hl =>
    ⟨hs.ok, hs.serving, fun k x hkx => by obtain ⟨rfl, rfl⟩ := hkx; exact hl⟩
  unfold State.holdPulse
  split
  · next hnil => exact (withRoom h (by simp [hnil])).joinList hon ⟨rfl, rfl⟩ r
  · next head rest hcons =>
    rw [hcons, List.length_cons] at hbound
    split
    · next hroom =>
      rw [Config.listCapacity] at hroom
      exact (withRoom h (by rw [hcons, List.length_cons]; omega)).joinList hon ⟨rfl, rfl⟩ r
    · have hremoved := h.setHalfList hon (row := row) (l := rest) (by simp [hcons])
      have hshort : (((s.setHalfList ln row rest).matcher ln).list row).length ≤ 3 := by
        rw [State.setHalfList, State.matcher_setMatcher, Matcher.list_setList, if_pos rfl]
        omega
      exact ((withRoom hremoved hshort).resolve hon row head).joinList hon ⟨rfl, rfl⟩ r

theorem State.matchPulse_laneInv (h : s.LaneInv) {r : PulseReport} (hserving : s.Serving r.channel.lane) (w : LaneItem) :
    (s.matchPulse w r).LaneInv := by
  have hon : s.LanesOn (fun k => k = r.channel.lane) (fun _ _ => False) :=
    ⟨h, fun k hk => hk ▸ hserving, fun _ _ hr => hr.elim⟩
  unfold State.matchPulse
  dsimp only
  split
  · next e rest htaken =>
    refine ((hon.setHalfList rfl (by have := takeFirst_length htaken; omega)).formCrossing ?_).ok
    rfl
  · exact State.holdPulse_laneInv hon rfl _ r

end

end Sys2Proof.Machine
end

section
/-! What the commands do to what is on its way between the blocks, and the commands that can reach the lanes' matchers and
assemblers: every other leaves them as they were. -/

namespace Sys2Proof.Machine

/-! ## What each consumer takes from the mail -/

section
variable {s t : State}

theorem State.readyTest_mail (s : State) : s.readyTest.mail = s.mail := by rw [State.readyTest_frame]

theorem execRecordStoreDelivery_mail (h : execRecordStoreDelivery s = .next t) :
    t.mail = { s.mail with toStore := t.mail.toStore, drops := t.mail.drops } := by
  injection h with h
  subst h
  split
  · rfl
  · unfold State.storeRecord
    split
    · rw [State.joinRecord, State.readyTest_mail]
    · rfl

theorem execTallyRecord_mail (h : execTallyRecord s = .next t) : t.mail = { s.mail with toTally := t.mail.toTally } := by
  injection h with h
  subst h
  split <;> rfl

theorem execTallyDrop_mail (h : execTallyDrop s = .next t) : t.mail = { s.mail with drops := t.mail.drops } := by
  injection h with h
  subst h
  split <;> rfl

theorem execDriftFeed_mail (h : execDriftFeed s = .next t) : t.mail = { s.mail with toDrift := t.mail.toDrift } := by
  injection h with h
  subst h
  split
  · rfl
  · dsimp only
    split
    · rw [State.feed_frame]
    · rfl

theorem execDriftPolicyTake_mail (h : execDriftPolicyTake s = .next t) :
    t.mail = { s.mail with driftOffers := t.mail.driftOffers } := by
  injection h with h
  subst h
  split <;> rfl

theorem execSiteSettingsTake_mail (h : execSiteSettingsTake s = .next t) :
    t.mail = { s.mail with siteOffers := t.mail.siteOffers } := by
  injection h with h
  subst h
  split
  · rfl
  · rw [State.takeSite_frame]

theorem State.closeTest_mail (s : State) (r : VehicleRecord) :
    (s.closeTest r).mail = { s.mail with toStore := (s.closeTest r).mail.toStore } := by
  unfold State.closeTest
  split
  · split
    · rw [State.raise_mail]
      unfold State.setCaptured
      split <;> rfl
    · rfl
  · rfl

theorem execCaptureCloseTest_mail (h : execCaptureCloseTest s = .next t) :
    t.mail = { s.mail with toStore := t.mail.toStore, toCapture := t.mail.toCapture } := by
  injection h with h
  subst h
  split
  · rfl
  · rw [State.takeWaiting_frame]
    dsimp only
    rw [State.closeTest_mail]

/-! ## Channel commands leave the lanes and their reports alone -/

theorem LanesKept.refl (s : State) : LanesKept s s := ⟨fun _ => rfl, fun _ => rfl, rfl⟩

theorem LanesKept.trans {u : State} (h : LanesKept s t) (k : LanesKept t u) : LanesKept s u :=
  ⟨fun ln => (k.asm ln).trans (h.asm ln), fun ln => (k.matcher ln).trans (h.matcher ln), k.reports.trans h.reports⟩

theorem State.answer_lanesKept (s : State) (kind tag : Byte) (body reply : List Byte) :
    LanesKept s (s.answer kind tag body reply) := LanesKept.of_lanes rfl rfl

theorem State.putUnit_lanesKept (s : State) (ch : ChannelId) (u : ChannelUnit) : LanesKept s (s.putUnit ch u) :=
  ⟨s.putUnit_asm ch u, s.putUnit_matcher ch u, by rw [(s.putUnit_frame ch u).mail]⟩

theorem State.putUnits_lanesKept {α : Type} {c : α → ChannelId} {f : State → α → ChannelUnit} (l : List α) (s : State) :
    LanesKept s (l.foldl (fun s a => s.putUnit (c a) (f s a)) s) := by
  induction l generalizing s with
  | nil => exact LanesKept.refl s
  | cons a l ih => exact (s.putUnit_lanesKept _ _).trans (ih _)

theorem State.takeOverlong_lanesKept (s : State) (ch : ChannelId) : LanesKept s (s.takeOverlong ch) := by
  refine ⟨(s.takeOverlong_channel ch).asm, (s.takeOverlong_channel ch).matcher, ?_⟩
  unfold State.takeOverlong
  dsimp only
  split
  · rfl
  · exact (s.putUnit_lanesKept ch _).reports

theorem State.supervise_lanesKept (s : State) (v : Supervision) : LanesKept s (s.supervise v) := by
  unfold State.supervise
  split
  · exact State.putUnits_lanesKept (c := fun p => ⟨v.lane, p⟩)
      (f := fun s p => (s.unit ⟨v.lane, p⟩).judge v ⟨v.lane, p⟩) fours s
  · exact LanesKept.refl s

theorem execPulseOverlong_lanesKept {ch : ChannelId} (h : execPulseOverlong ch s = .next t) : LanesKept s t := by
  injection h with h
  subst h
  split
  · exact s.takeOverlong_lanesKept ch
  · exact LanesKept.refl s

theorem execChannelSettingsWaiting_lanesKept {ch : ChannelId} (h : execChannelSettingsWaiting ch s = .next t) :
    LanesKept s t := by
  injection h with h
  subst h
  split
  · exact s.putUnit_lanesKept ch _
  · exact LanesKept.refl s

theorem execChannelSupervision_lanesKept (h : execChannelSupervision s = .next t) : LanesKept s t := by
  injection h with h
  subst h
  split
  · exact LanesKept.refl s
  · refine LanesKept.trans ?_ (State.supervise_lanesKept _ _)
    exact LanesKept.of_lanes rfl rfl

theorem execChannelRestore_lanesKept {tag : Byte} {body : List Byte} (h : execChannelRestore tag body s = .next t) :
    LanesKept s t := by
  injection h with h
  subst h
  split
  · exact s.answer_lanesKept _ _ _ _
  · split
    · exact s.answer_lanesKept _ _ _ _
    · split
      · exact (s.putUnit_lanesKept _ _).trans (State.answer_lanesKept _ _ _ _ _)
      · exact s.answer_lanesKept _ _ _ _

theorem TempFrame.lanesKept (h : TempFrame s t) : LanesKept s t := LanesKept.of_lanes h.lanes (by rw [h.mail])

end

/-! ## The commands that reach the lanes -/

/-- The commands whose block is the matcher or the assembler, the clock whose rate gives the windows, the sample that sends a report,
and the starts and the commit. -/
def reachesLanes : Instr → Bool
  | .powerOn _ _ | .channelSample _ _ | .refEdge _ | .timebaseSilence | .freeRunningBoundary | .pulseReport | .holdExpiry _
  | .pendingExpiry _ | .deliveryMarkLapse _ | .presenceSample _ _ | .gapWithLoop _ | .gapWithoutLoop _ | .timeout _
  | .restart _ _ | .stageCommit _ _ => true
  | _ => false

/-- Every other command leaves the matchers, the assemblers and the reports as they were. -/
theorem exec_lanesKept (c : Instr) (s t : State) (hc : reachesLanes c = false) (h : exec c s = .next t) : LanesKept s t := by
  cases c
  case powerOn => cases hc
  case channelSample => cases hc
  case refEdge => cases hc
  case timebaseSilence => cases hc
  case freeRunningBoundary => cases hc
  case pulseReport => cases hc
  case holdExpiry => cases hc
  case pendingExpiry => cases hc
  case deliveryMarkLapse => cases hc
  case presenceSample => cases hc
  case gapWithLoop => cases hc
  case gapWithoutLoop => cases hc
  case timeout => cases hc
  case restart => cases hc
  case stageCommit => cases hc
  case pulseOverlong => exact execPulseOverlong_lanesKept h
  case channelSettingsWaiting => exact execChannelSettingsWaiting_lanesKept h
  case channelSupervision => exact execChannelSupervision_lanesKept h
  case channelRestore => exact execChannelRestore_lanesKept h
  case gateEnd => exact (execGateEnd_frame h).lanesKept
  case probeSettingsTake => exact (execProbeSettingsTake_frame h).lanesKept
  case probeRestore => exact (execProbeRestore_frame h).lanesKept
  case probeEdge => exact (execProbeEdge_frame h).lanesKept
  case recordStoreDelivery =>
    exact LanesKept.of_lanes (by rw [execRecordStoreDelivery_frame h]) (by rw [execRecordStoreDelivery_mail h])
  case tallyRecord => exact LanesKept.of_lanes (by rw [execTallyRecord_frame h]) (by rw [execTallyRecord_mail h])
  case tallyDrop => exact LanesKept.of_lanes (by rw [execTallyDrop_frame h]) (by rw [execTallyDrop_mail h])
  case driftFeed => exact LanesKept.of_lanes (by rw [execDriftFeed_frame h]) (by rw [execDriftFeed_mail h])
  case captureCloseTest =>
    exact LanesKept.of_lanes (by rw [execCaptureCloseTest_frame h]) (by rw [execCaptureCloseTest_mail h])
  case driftPolicyTake => exact LanesKept.of_lanes (by rw [execDriftPolicyTake_frame h]) (by rw [execDriftPolicyTake_mail h])
  case siteSettingsTake =>
    exact LanesKept.of_lanes (by rw [execSiteSettingsTake_frame h]) (by rw [execSiteSettingsTake_mail h])
  case captureWrite => rw [execCaptureWrite_frame h]; exact LanesKept.of_lanes rfl rfl
  case inboundByte => rw [execInboundByte_frame h]; exact LanesKept.of_lanes rfl rfl
  case frameGapExpiry => rw [execFrameGapExpiry_frame h]; exact LanesKept.of_lanes rfl rfl
  case transmitEnd => rw [execTransmitEnd_frame h]; exact LanesKept.of_lanes rfl rfl
  case unknownRequest => rw [execUnknownRequest_frame h]; exact LanesKept.of_lanes rfl rfl
  case status => rw [execStatus_frame h]; exact LanesKept.of_lanes rfl rfl
  case liveRead => rw [execLiveRead_frame h]; exact LanesKept.of_lanes rfl rfl
  case timeSet => rw [execTimeSet_frame h]; exact LanesKept.of_lanes rfl rfl
  case stageOpen => rw [execStageOpen_frame h]; exact LanesKept.of_lanes rfl rfl
  case stagePut => rw [execStagePut_frame h]; exact LanesKept.of_lanes rfl rfl
  case stageDiscard => rw [execStageDiscard_frame h]; exact LanesKept.of_lanes rfl rfl
  case tableRead => rw [execTableRead_frame h]; exact LanesKept.of_lanes rfl rfl
  case driftGet => rw [execDriftGet_frame h]; exact LanesKept.of_lanes rfl rfl
  case driftSet => rw [execDriftSet_frame h]; exact LanesKept.of_lanes rfl rfl
  case driftFreeze => rw [execDriftFreeze_frame h]; exact LanesKept.of_lanes rfl rfl
  case recordFetch => rw [execRecordFetch_frame h]; exact LanesKept.of_lanes rfl rfl
  case recordRelease => rw [execRecordRelease_frame h]; exact LanesKept.of_lanes rfl rfl
  case tallyFetch => rw [execTallyFetch_frame h]; exact LanesKept.of_lanes rfl rfl
  case tallyRelease => rw [execTallyRelease_frame h]; exact LanesKept.of_lanes rfl rfl
  case captureArm => rw [execCaptureArm_frame h]; exact LanesKept.of_lanes rfl rfl
  case captureFetch => rw [execCaptureFetch_frame h]; exact LanesKept.of_lanes rfl rfl
  case captureRelease => rw [execCaptureRelease_frame h]; exact LanesKept.of_lanes rfl rfl

end Sys2Proof.Machine
end

section
/-! Every command keeps the lanes in order, and with them the channel units (R24, R27, R29, R35, R39, R45, R53, R74, R76). -/

namespace Sys2Proof.Machine

section
variable {s t : State}

/-! ## Changes that a lane's order does not see -/

/-- Of assembler and matcher only the settings held, the service state, whether a vehicle is open, the lists, the queue and whether
there are windows matter to a lane's order. -/
structure LanesAlike (s t : State) : Prop where
  adopted : ∀ ln, (t.asm ln).adopted = (s.asm ln).adopted
  working : ∀ ln, (t.asm ln).working = (s.asm ln).working
  service : ∀ ln, (t.asm ln).service = (s.asm ln).service
  context : ∀ ln, (t.asm ln).context.isNone = (s.asm ln).context.isNone
  list1 : ∀ ln, (t.matcher ln).list1 = (s.matcher ln).list1
  list2 : ∀ ln, (t.matcher ln).list2 = (s.matcher ln).list2
  queue : ∀ ln, (t.matcher ln).queue = (s.matcher ln).queue
  windows : ∀ ln, (t.matcher ln).windows.isSome = (s.matcher ln).windows.isSome
  reports : t.mail.reports = s.mail.reports

theorem LanesAlike.laneInv (h : LanesAlike s t) (hs : s.LaneInv) : t.LaneInv := fun ln => by
  have hquiet : t.quiet ln = s.quiet ln := by
    simp only [State.quiet, h.context, h.list1, h.list2, h.queue, h.reports]
  simpa only [State.LaneOk, h.adopted, h.working, h.service, h.list1, h.list2, h.queue, h.windows, hquiet] using hs ln

/-- A recomputation of the windows leaves a lane with windows where it had some (R44). -/
theorem ClockFrame.lanesAlike (h : ClockFrame s t) (hs : s.LaneInv) : LanesAlike s t where
  adopted := fun ln => by rw [h.asm]
  working := fun ln => by rw [h.asm]
  service := fun ln => by rw [h.asm]
  context := fun ln => by rw [h.asm]
  list1 := fun ln => by rw [h.matcher]
  list2 := fun ln => by rw [h.matcher]
  queue := fun ln => by rw [h.matcher]
  windows := fun ln => by
    obtain ⟨-, -, -, -, -, hworking, hwindows⟩ := hs ln
    exact h.windows ln (hwindows.trans hworking.symm)
  reports := by rw [h.mail]

theorem State.lapse_lanesAlike (s : State) (ln : LaneId) :
    LanesAlike s (s.setMatcher ln { s.matcher ln with mark := none }) := by
  have hm : ∀ k, (s.setMatcher ln { s.matcher ln with mark := none }).matcher k =
      { s.matcher k with mark := if k = ln then none else (s.matcher k).mark } := fun k => by
    by_cases hk : k = ln
    · subst hk; simp
    · simp [State.matcher_setMatcher_ne s _ hk, hk]
  constructor
  case reports => rfl
  all_goals intro k; simp only [State.asm_setMatcher, hm]

theorem Assembler.samplePresence_alike (a : Assembler) (level : Bool) :
    (a.samplePresence level).adopted = a.adopted ∧ (a.samplePresence level).working = a.working ∧
      (a.samplePresence level).service = a.service ∧ (a.samplePresence level).context.isNone = a.context.isNone := by
  by_cases hagrees : level = a.presence
  · rw [Assembler.samplePresence_agrees hagrees]; exact ⟨rfl, rfl, rfl, rfl⟩
  · by_cases hrun : a.presenceRun < 49
    · rw [Assembler.samplePresence_counts hagrees hrun]; exact ⟨rfl, rfl, rfl, rfl⟩
    · cases level with
      | true =>
        rw [Assembler.samplePresence_rises (Bool.eq_false_iff.2 (Ne.symm hagrees)) (Nat.le_of_not_lt hrun)]
        exact ⟨rfl, rfl, rfl, rfl⟩
      | false =>
        rw [Assembler.samplePresence_falls (Bool.eq_true_of_not_eq_false (Ne.symm hagrees)) (Nat.le_of_not_lt hrun),
          Assembler.presenceFell_eq]
        refine ⟨rfl, rfl, rfl, ?_⟩
        dsimp only
        split
        · rw [Option.isNone_map]
        · rfl

theorem State.presence_lanesAlike (s : State) (ln : LaneId) (level : Bool) :
    LanesAlike s (s.setAsm ln ((s.asm ln).samplePresence level)) := by
  obtain ⟨hadopted, hworking, hservice, hcontext⟩ := (s.asm ln).samplePresence_alike level
  have ha : ∀ k, (s.setAsm ln ((s.asm ln).samplePresence level)).asm k =
      if k = ln then (s.asm ln).samplePresence level else s.asm k := fun k => by
    by_cases hk : k = ln
    · subst hk; simp
    · simp [State.asm_setAsm_ne s _ hk, hk]
  constructor
  case reports => rfl
  all_goals
    intro k
    simp only [State.matcher_setAsm, ha]
  all_goals
    split
    · next hk => subst hk; assumption
    · rfl

/-! ## Reports on their way -/

/-- Reports may leave, and reports of lanes in service may join. -/
theorem State.laneInv_of_reports (h : s.LaneInv) (hasm : ∀ ln, t.asm ln = s.asm ln)
    (hmatcher : ∀ ln, t.matcher ln = s.matcher ln)
    (hreports : ∀ r ∈ t.mail.reports, r ∈ s.mail.reports ∨ s.Serving r.channel.lane) : t.LaneInv := by
  intro ln
  obtain ⟨hlist1, hlist2, hqueue, hiff, hquiet, hworking, hwindows⟩ := h ln
  simp only [State.LaneOk, hasm, hmatcher]
  refine ⟨hlist1, hlist2, hqueue, hiff, fun hout => ?_, hworking, hwindows⟩
  obtain ⟨hcontext, hq, hl1, hl2, hr⟩ := (s.quiet_iff ln).1 (hquiet hout)
  rw [State.quiet_iff, hasm, hmatcher]
  refine ⟨hcontext, hq, hl1, hl2, fun r hmem hlane => ?_⟩
  rcases hreports r hmem with hold | hserving
  · exact hr r hold hlane
  · rw [hlane, State.Serving, hout] at hserving
    cases hserving

/-- A sample sends a report of a lane in service only (R22). -/
theorem State.sampleEvent_reports (s : State) (ch : ChannelId) (e : SampleEvent) :
    ∀ r ∈ (s.sampleEvent ch e).mail.reports, r ∈ s.mail.reports ∨ s.Serving r.channel.lane := by
  intro r hr
  unfold State.sampleEvent at hr
  split at hr
  · exact .inl hr
  · exact .inl hr
  · next x =>
    unfold State.sendReport at hr
    split at hr
    · next hservice =>
      rcases List.mem_append.1 hr with hr | hr
      · exact .inl hr
      · rw [List.mem_singleton] at hr
        exact .inr (hr ▸ hservice)
    · exact .inl hr

theorem State.takeSample_laneInv (s : State) (ch : ChannelId) (x : Code) (h : s.LaneInv) : (s.takeSample ch x).LaneInv := by
  refine State.laneInv_of_reports h (s.takeSample_channel ch x).asm (s.takeSample_channel ch x).matcher ?_
  unfold State.takeSample
  dsimp only
  split
  · exact fun _ hr => .inl hr
  · split
    · intro r hr
      rw [(State.putUnit_frame _ _ _).mail] at hr
      exact s.sampleEvent_reports ch _ r hr
    · exact fun _ hr => .inl hr

/-! ## Traffic -/

theorem State.LaneInv.serves (h : s.LaneInv) {ln : LaneId} (hs : s.Serving ln) :
    s.LanesOn (fun k => k = ln) (fun _ _ => False) :=
  ⟨h, fun _ hk => hk ▸ hs, fun _ _ hr => hr.elim⟩

/-- A lane with an open vehicle is in service. -/
theorem State.serving_of_context (h : s.LaneInv) {ln : LaneId} {ctx : Context} (hc : (s.asm ln).context = some ctx) :
    s.Serving ln := by
  rcases State.serving_or_quiet h ln with hserving | hquiet
  · exact hserving
  · obtain ⟨hnone, -⟩ := (s.quiet_iff ln).1 hquiet
    rw [hnone] at hc
    cases hc

theorem State.serving_of_queue (h : s.LaneInv) {ln : LaneId} (hq : (s.matcher ln).queue ≠ []) : s.Serving ln := by
  rcases State.serving_or_quiet h ln with hserving | hquiet
  · exact hserving
  · obtain ⟨-, hnil, -⟩ := (s.quiet_iff ln).1 hquiet
    exact absurd hnil hq

/-- A close of a lane's open vehicle, with the adoptions that follow. -/
theorem State.close_settle_laneInv (h : s.LaneInv) {ln : LaneId} {ctx : Context} (hc : (s.asm ln).context = some ctx)
    (tailgate timeout : Bool) : (s.close ln ctx tailgate timeout).settle.LaneInv :=
  State.settle_laneInv _ ((h.serves (State.serving_of_context h hc)).close rfl ctx tailgate timeout).ok

theorem State.gapDue_context {ln : LaneId} {loop : Bool} {ctx : Context} (h : s.gapDue ln loop = some ctx) :
    (s.asm ln).context = some ctx := by
  unfold State.gapDue at h
  split at h
  · next hc _ =>
    obtain ⟨-, heq⟩ := Option.ite_none_right_eq_some.1 h
    cases heq
    exact hc
  · cases h

theorem State.timeoutDue_context {ln : LaneId} {ctx : Context} (h : s.timeoutDue ln = some ctx) :
    (s.asm ln).context = some ctx := by
  unfold State.timeoutDue at h
  split at h
  · next hc _ =>
    split at h
    · cases h; exact hc
    · cases h
  · cases h

/-- A held pulse that is due is the first of its side in its list. -/
theorem State.holdDue_taken {ch : ChannelId} {e : PulseReport} {rest : List PulseReport} (h : s.holdDue ch = some (e, rest)) :
    takeFirst (fun e => e.side = sideOf ch.strip) ((s.matcher ch.lane).list (rowOf ch.strip)) = some (e, rest) := by
  unfold State.holdDue at h
  split at h
  · next htaken =>
    split at h
    · cases h; exact htaken
    · cases h
  · cases h

theorem State.pendingDue_queue {ln : LaneId} {head : Crossing} {rest : List Crossing} (h : s.pendingDue ln = some (head, rest)) :
    (s.matcher ln).queue = head :: rest := by
  unfold State.pendingDue at h
  split at h
  · next hq =>
    split at h
    · cases h; exact hq
    · cases h
  · cases h

theorem execPulseReport_laneInv (h : s.LaneInv) (he : execPulseReport s = .next t) : t.LaneInv := by
  injection he with he
  subst he
  split
  · exact h
  · next r rest hreports =>
    have htaken : State.LaneInv { s with mail := { s.mail with reports := rest } } :=
      State.laneInv_of_reports h (fun _ => rfl) (fun _ => rfl) fun x hx =>
        .inl (by rw [hreports]; exact List.mem_cons_of_mem _ hx)
    unfold State.takeReport
    split
    · next hservice _ => exact State.settle_laneInv _ (State.matchPulse_laneInv htaken hservice _)
    · exact htaken

theorem execHoldExpiry_laneInv {ch : ChannelId} (h : s.LaneInv) (he : execHoldExpiry ch s = .next t) : t.LaneInv := by
  injection he with he
  subst he
  split
  · exact h
  · next e rest hdue =>
    have htaken := State.holdDue_taken hdue
    have hlength := takeFirst_length htaken
    have hserving : s.Serving ch.lane := State.serving_of_list h (fun hnil => by rw [hnil] at htaken; cases htaken)
    exact State.settle_laneInv _
      (((h.serves hserving).setHalfList rfl (row := rowOf ch.strip) (l := rest) (by omega)).resolve rfl _ _).ok

theorem execPendingExpiry_laneInv {ln : LaneId} (h : s.LaneInv) (he : execPendingExpiry ln s = .next t) : t.LaneInv := by
  injection he with he
  subst he
  split
  · exact h
  · next head rest hdue =>
    have hq := State.pendingDue_queue hdue
    obtain ⟨-, -, hqueue, -, -, -, -⟩ := h ln
    rw [hq, List.length_cons] at hqueue
    have hserving : s.Serving ln := State.serving_of_queue h (fun hnil => by rw [hnil] at hq; cases hq)
    exact State.settle_laneInv _ (((h.serves hserving).setQueue rfl (q := rest) (by omega)).deliver rfl _).ok

/-! ## Starts and commits -/

theorem State.reset_laneInv : State.reset.LaneInv := fun ln => by
  have hasm : State.reset.asm ln = Assembler.start := by simp [State.asm, State.reset, Lane.start]
  have hmatcher : State.reset.matcher ln = Matcher.start := by simp [State.matcher, State.reset, Lane.start]
  have hmail : State.reset.mail.reports = [] := rfl
  simp [State.LaneOk, State.quiet, hasm, hmatcher, hmail, Assembler.start, Matcher.start]

theorem State.freeRetiring_lanesKept (s : State) : LanesKept s s.freeRetiring := by
  rw [State.freeRetiring_store]
  exact LanesKept.of_lanes rfl rfl

/-- Lanes that are quiet stay so while others adopt. -/
theorem State.adopts_laneInv (l : List LaneId) (s : State) (h : s.LaneInv) (hq : ∀ ln, s.quiet ln = true) :
    (l.foldl State.adopt s).LaneInv := by
  induction l generalizing s with
  | nil => exact h
  | cons ln l ih => exact ih _ (State.adopt_laneInv h (hq ln)) fun k => by rw [State.adopt_quiet]; exact hq k

theorem State.restartUnits_lanesKept (s : State) : LanesKept s s.restartUnits := by
  unfold State.restartUnits
  generalize allChannels = channels
  exact State.putUnits_lanesKept (c := fun ch => ch) (f := fun s ch => (s.unit ch).restart.adopt) channels s

theorem State.emptied_mail (s : State) : s.emptied.mail =
    { s.restartUnits.mail with reports := [], toCapture := s.restartUnits.mail.toCapture.map CaptureDelivery.alone } := by
  unfold State.emptied
  generalize s.restartUnits = u
  rw [State.setStaging_mail, State.restartGate_frame]
  rfl

/-- The lanes of a restart before they adopt: quiet, with the settings and windows they had (R54, R94). -/
theorem State.emptied_asm (s : State) (ln : LaneId) : s.emptied.asm ln = { s.asm ln with context := none } := by
  rw [← s.restartUnits_lanesKept.asm]
  simp only [State.asm, State.emptied_lanes, Four.get_map, Lane.restart]

theorem State.emptied_matcher (s : State) (ln : LaneId) : s.emptied.matcher ln = (s.matcher ln).restart := by
  rw [← s.restartUnits_lanesKept.matcher]
  simp only [State.matcher, State.emptied_lanes, Four.get_map, Lane.restart]

theorem State.emptied_quiet (s : State) (ln : LaneId) : s.emptied.quiet ln = true := by
  simp [State.quiet_iff, State.emptied_asm, State.emptied_matcher, State.emptied_mail, Matcher.restart]

theorem State.emptied_laneInv (s : State) (h : s.LaneInv) : s.emptied.LaneInv := fun ln => by
  obtain ⟨-, -, -, hiff, -, hworking, hwindows⟩ := h ln
  simp only [State.LaneOk, State.emptied_asm, State.emptied_matcher, State.emptied_quiet, Matcher.restart]
  exact ⟨by simp, by simp, by simp, hiff, fun _ => trivial, hworking, hwindows⟩

theorem State.reopenTallies_lanesKept (s : State) : LanesKept s s.reopenTallies := LanesKept.of_lanes rfl rfl

theorem State.raise_lanesKept (s : State) (n : Notice) : LanesKept s (s.raise n) := LanesKept.of_lanes rfl rfl

theorem State.restartBlocks_laneInv (s : State) (h : s.LaneInv) : s.restartBlocks.LaneInv := by
  rw [State.restartBlocks_eq]
  refine (State.reopenTallies_lanesKept _).laneInv ((State.freeRetiring_lanesKept _).laneInv ?_)
  exact State.adopts_laneInv fours _ (s.emptied_laneInv h) s.emptied_quiet

theorem State.promote_lane (s : State) (set : TableSet) (reset : Bool) (ln : LaneId) :
    (s.promote set reset).lanes.get ln =
      (s.lanes.get ln).receive (set.generation (nextGeneration s.tables.counter)) ln := by
  fin_cases ln <;> rfl

theorem State.promote_lanesKept (s : State) (set : TableSet) (reset : Bool) : LanesKept s (s.promote set reset) :=
  ⟨fun ln => by rw [State.asm, State.promote_lane]; rfl, fun ln => by rw [State.matcher, State.promote_lane]; rfl, rfl⟩

theorem State.commit_laneInv (s : State) (set : TableSet) (reset : Bool) (h : s.LaneInv) : (s.commit set reset).LaneInv :=
  (State.freeRetiring_lanesKept _).laneInv (State.settle_laneInv _ ((s.promote_lanesKept set reset).laneInv h))

end

/-! ## All commands -/

theorem exec_laneInv (c : Instr) (s t : State) (h : s.LaneInv) (he : exec c s = .next t) : t.LaneInv := by
  by_cases hreach : reachesLanes c = false
  · exact (exec_lanesKept c s t hreach he).laneInv h
  cases c
  case powerOn rate1 rate0 =>
    injection he with he
    subst he
    exact LanesKept.laneInv (LanesKept.of_lanes rfl rfl) State.reset_laneInv
  case channelSample ch x =>
    injection he with he
    subst he
    split
    · exact State.takeSample_laneInv _ ch x ((s.takeOverlong_lanesKept ch).laneInv h)
    · exact s.takeSample_laneInv ch x h
  case refEdge => exact ((execRefEdge_clock he).lanesAlike h).laneInv h
  case timebaseSilence => exact ((execTimebaseSilence_clock he).lanesAlike h).laneInv h
  case freeRunningBoundary => exact ((execFreeRunningBoundary_clock he).lanesAlike h).laneInv h
  case pulseReport => exact execPulseReport_laneInv h he
  case holdExpiry => exact execHoldExpiry_laneInv h he
  case pendingExpiry => exact execPendingExpiry_laneInv h he
  case deliveryMarkLapse ln =>
    injection he with he
    subst he
    split
    · exact (s.lapse_lanesAlike ln).laneInv h
    · exact h
  case presenceSample ln level =>
    injection he with he
    subst he
    exact (s.presence_lanesAlike ln level).laneInv h
  case gapWithLoop =>
    injection he with he
    subst he
    split
    · exact h
    · next hdue => exact State.close_settle_laneInv h (State.gapDue_context hdue) _ _
  case gapWithoutLoop =>
    injection he with he
    subst he
    split
    · exact h
    · next hdue => exact State.close_settle_laneInv h (State.gapDue_context hdue) _ _
  case timeout =>
    injection he with he
    subst he
    split
    · exact h
    · next hdue => exact State.close_settle_laneInv h (State.timeoutDue_context hdue) _ _
  case restart =>
    rcases execRestart_cases he with ⟨-, rfl⟩ | ⟨-, rfl⟩
    · exact h
    · exact (State.raise_lanesKept _ _).laneInv ((State.answer_lanesKept _ _ _ _ _).laneInv (s.restartBlocks_laneInv h))
  case stageCommit =>
    rcases execStageCommit_cases he with ⟨reply, rfl⟩ | ⟨x, reset, reply, -, -, -, -, rfl⟩
    · exact h
    · exact (State.answer_lanesKept _ _ _ _ _).laneInv (s.commit_laneInv x.set reset h)
  all_goals exact absurd rfl hreach

theorem State.idle_laneInv (s : State) (h : s.LaneInv) : s.idle.LaneInv := by
  rcases s.idle_cases with ⟨-, -, hidle⟩ | hidle
  all_goals rw [hidle]; exact h

/-! ## The statement -/

/-- Settles O56: both invariants are kept by every command and by the idle step, so by every step. -/
theorem stepsKeepUnitsAndLanes : Obligations.StepsKeepUnitsAndLanes := fun _ _ hstep =>
  ⟨fun h => step_keeps (fun _ _ hs => hs) (fun c s t => exec_channel c s t) State.idle_channel h hstep,
    fun h => step_keeps (fun _ _ hs => hs) (fun c s t => exec_laneInv c s t) State.idle_laneInv h hstep⟩

end Sys2Proof.Machine
end

section
/-! A property that the few operations of the traffic path keep is kept by every traffic command: the induction over matching,
delivery and assembly, said once. -/

namespace Sys2Proof.Machine

/-- The operations that the matching, the delivery and the assembly of the lanes are made of keep a property. -/
structure TrafficKeeps (p : State → Prop) : Prop where
  reports : ∀ s l, p s → p { s with mail := { s.mail with reports := l } }
  setMatcher : ∀ s ln m, p s → p (s.setMatcher ln m)
  adoptIfQuiet : ∀ s ln, p s → p (s.adoptIfQuiet ln)
  openVehicle : ∀ s ln axle split, p s → p (s.openVehicle ln axle split)
  close : ∀ s ln ctx split tailgate timeout, (s.asm ln).context = some ctx → p s →
    p (s.close ln { ctx with split := split } tailgate timeout)
  join : ∀ s ln ctx now spacing x, (s.asm ln).context = some ctx → ctx.axles.length < 13 → p s →
    p (s.setAsm ln { s.asm ln with
      context := some { ctx with lastTick := now, axles := joinAxle spacing x ctx.axles } })

namespace TrafficKeeps

variable {p : State → Prop} (k : TrafficKeeps p)
include k

theorem closeOpen {s : State} (h : p s) {ln : LaneId} {ctx : Context} (hc : (s.asm ln).context = some ctx)
    (tailgate timeout : Bool) : p (s.close ln ctx tailgate timeout) :=
  k.close s ln ctx ctx.split tailgate timeout hc h

theorem settle {s : State} (h : p s) : p s.settle := by
  rw [State.settle_eq]
  exact k.adoptIfQuiet _ 3 (k.adoptIfQuiet _ 2 (k.adoptIfQuiet _ 1 (k.adoptIfQuiet _ 0 h)))

theorem adoptAtSplit {s : State} (h : p s) (ln : LaneId) : p (s.adoptAtSplit ln) := by
  unfold State.adoptAtSplit
  split
  · exact k.adoptIfQuiet _ ln h
  · exact h

theorem nextAxle {s : State} (h : p s) {ln : LaneId} (w : LaneItem) {ctx : Context} (hc : (s.asm ln).context = some ctx)
    (axle : Axle) : p (s.nextAxle ln w ctx axle) := by
  unfold State.nextAxle
  dsimp only
  split
  · exact k.openVehicle _ _ _ _ (k.adoptAtSplit (k.closeOpen h hc _ _) ln)
  · split
    · exact k.openVehicle _ _ _ _ (k.adoptAtSplit (k.close _ _ _ true _ _ hc h) ln)
    · next hroom => exact k.join _ _ _ _ _ _ hc (Nat.lt_of_not_le hroom) h

theorem takeAxle {s : State} (h : p s) (ln : LaneId) (axle : Axle) : p (s.takeAxle ln axle) := by
  unfold State.takeAxle
  split
  · exact k.openVehicle _ _ _ _ h
  · next hc _ => exact k.nextAxle h _ hc axle
  · exact h

theorem deliver {s : State} (h : p s) (ln : LaneId) (axle : Axle) : p (s.deliver ln axle) :=
  k.takeAxle (k.setMatcher _ _ _ h) ln _

theorem joinQueue {s : State} (h : p s) (ln : LaneId) (c : Crossing) : p (s.joinQueue ln c) := by
  unfold State.joinQueue
  dsimp only
  split
  · exact k.setMatcher _ _ _ h
  · split
    · exact k.setMatcher _ _ _ h
    · split
      · exact k.deliver h _ _
      · exact k.deliver (k.setMatcher _ _ _ h) _ _

theorem judgeRow2 {s : State} (h : p s) (ln : LaneId) (c : Crossing) : p (s.judgeRow2 ln c) := by
  unfold State.judgeRow2
  dsimp only
  split
  · split
    · exact k.deliver h _ _
    · split
      · exact k.deliver h _ _
      · exact k.deliver (k.setMatcher _ _ _ h) _ _
  · exact h

theorem formCrossing {s : State} (h : p s) (c : Crossing) : p (s.formCrossing c) := by
  unfold State.formCrossing
  split
  · exact k.joinQueue h _ c
  · exact k.judgeRow2 h _ c

theorem setHalfList {s : State} (h : p s) (ln : LaneId) (row : Row) (l : List PulseReport) : p (s.setHalfList ln row l) :=
  k.setMatcher _ _ _ h

theorem resolve {s : State} (h : p s) (ln : LaneId) (row : Row) (r : PulseReport) : p (s.resolve ln row r) := by
  unfold State.resolve
  split
  · exact k.formCrossing h _
  · exact k.formCrossing (k.setHalfList h _ _ _) _

theorem holdPulse {s : State} (h : p s) (ln : LaneId) (row : Row) (r : PulseReport) : p (s.holdPulse ln row r) := by
  unfold State.holdPulse
  split
  · exact k.setHalfList h _ _ _
  · split
    · exact k.setHalfList h _ _ _
    · exact k.setHalfList (k.resolve (k.setHalfList h _ _ _) _ _ _) _ _ _

theorem matchPulse {s : State} (h : p s) (w : LaneItem) (r : PulseReport) : p (s.matchPulse w r) := by
  unfold State.matchPulse
  dsimp only
  split
  · exact k.formCrossing (k.setHalfList h _ _ _) _
  · exact k.holdPulse h _ _ _

/-! ## The traffic commands -/

theorem execPulseReport {s t : State} (h : p s) (he : execPulseReport s = .next t) : p t := by
  injection he with he
  subst he
  split
  · exact h
  · unfold State.takeReport
    split
    · exact k.settle (k.matchPulse (k.reports _ _ h) _ _)
    · exact k.reports _ _ h

theorem execHoldExpiry {s t : State} {ch : ChannelId} (h : p s) (he : execHoldExpiry ch s = .next t) : p t := by
  injection he with he
  subst he
  split
  · exact h
  · exact k.settle (k.resolve (k.setHalfList h _ _ _) _ _ _)

theorem execPendingExpiry {s t : State} {ln : LaneId} (h : p s) (he : execPendingExpiry ln s = .next t) : p t := by
  injection he with he
  subst he
  split
  · exact h
  · exact k.settle (k.deliver (k.setMatcher _ _ _ h) _ _)

theorem execDeliveryMarkLapse {s t : State} {ln : LaneId} (h : p s) (he : execDeliveryMarkLapse ln s = .next t) : p t := by
  injection he with he
  subst he
  split
  · exact k.setMatcher _ _ _ h
  · exact h

theorem execGapWithLoop {s t : State} {ln : LaneId} (h : p s) (he : execGapWithLoop ln s = .next t) : p t := by
  injection he with he
  subst he
  split
  · exact h
  · next hdue => exact k.settle (k.closeOpen h (State.gapDue_context hdue) _ _)

theorem execGapWithoutLoop {s t : State} {ln : LaneId} (h : p s) (he : execGapWithoutLoop ln s = .next t) : p t := by
  injection he with he
  subst he
  split
  · exact h
  · next hdue => exact k.settle (k.closeOpen h (State.gapDue_context hdue) _ _)

theorem execTimeout {s t : State} {ln : LaneId} (h : p s) (he : execTimeout ln s = .next t) : p t := by
  injection he with he
  subst he
  split
  · exact h
  · next hdue => exact k.settle (k.closeOpen h (State.timeoutDue_context hdue) _ _)

end TrafficKeeps

end Sys2Proof.Machine
end

section
/-! The generations every step keeps in order (R151, R153, R154): at most two are live, lanes hold no other, and an open vehicle holds
its lane's. -/

namespace Sys2Proof.Machine

section
variable {s t : State}

/-! ## The live generations -/

/-- The order of the generations without the demand that some lane holds the retiring one, which a commit meets only at its end. -/
structure State.Generations (s : State) : Prop where
  active : match s.tables.active with
    | none => s.tables.counter = 0 ∧ s.tables.retiring = none
    | some a => a.number = s.tables.counter ∧ 1 ≤ a.number ∧ a.number ≤ 65535
  retiring : ∀ g, s.tables.retiring = some g →
    1 ≤ g.number ∧ g.number ≤ 65535 ∧ s.tables.counter = nextGeneration g.number
  adopted : ∀ ln g, (s.asm ln).adopted = some g → s.tables.active = some g ∨ s.tables.retiring = some g
  context : ∀ ln c, (s.asm ln).context = some c → (s.asm ln).adopted = some c.generation

theorem State.generationInv_iff (s : State) :
    s.GenerationInv ↔ s.Generations ∧ ∀ g, s.tables.retiring = some g → s.someLaneHolds g.number = true := by
  constructor
  · rintro ⟨hactive, hretiring, hadopted, hcontext⟩
    exact ⟨⟨hactive, fun g hg => ⟨(hretiring g hg).1, (hretiring g hg).2.1, (hretiring g hg).2.2.1⟩, hadopted, hcontext⟩,
      fun g hg => (hretiring g hg).2.2.2⟩
  · rintro ⟨⟨hactive, hretiring, hadopted, hcontext⟩, hheld⟩
    exact ⟨hactive, fun g hg => ⟨(hretiring g hg).1, (hretiring g hg).2.1, (hretiring g hg).2.2, hheld g hg⟩, hadopted, hcontext⟩

theorem State.GenerationInv.generations (h : s.GenerationInv) : s.Generations := (s.generationInv_iff.1 h).1

theorem Lane.holds_iff (l : Lane) (n : Nat) : l.holds n = true ↔ ∃ g, l.asm.adopted = some g ∧ g.number = n := by
  simp [Lane.holds, Option.any_eq_true]

theorem State.someLaneHolds_iff (s : State) (n : Nat) :
    s.someLaneHolds n = true ↔ ∃ ln g, (s.asm ln).adopted = some g ∧ g.number = n := by
  simp only [State.someLaneHolds, Bool.or_eq_true, Lane.holds_iff, State.asm]
  constructor
  · rintro (((h | h) | h) | h)
    exacts [⟨0, h⟩, ⟨1, h⟩, ⟨2, h⟩, ⟨3, h⟩]
  · rintro ⟨ln, h⟩
    fin_cases ln
    exacts [.inl (.inl (.inl h)), .inl (.inl (.inr h)), .inl (.inr h), .inr h]

/-- The staging apart, two table stores hold the same. -/
structure TableStore.Alike (t u : TableStore) : Prop where
  active : u.active = t.active
  retiring : u.retiring = t.retiring
  counter : u.counter = t.counter

theorem TableStore.Alike.refl (t : TableStore) : TableStore.Alike t t := ⟨rfl, rfl, rfl⟩

theorem TableStore.Alike.of_eq {t u : TableStore} (h : u = t) : TableStore.Alike t u := h ▸ TableStore.Alike.refl t

/-- The generations are as they were when the lanes hold what they held and a vehicle that is open holds its lane's. -/
theorem State.Generations.congr (h : s.Generations) (htables : s.tables.Alike t.tables)
    (hadopted : ∀ ln, (t.asm ln).adopted = (s.asm ln).adopted)
    (hcontext : ∀ ln c, (t.asm ln).context = some c → (s.asm ln).adopted = some c.generation) : t.Generations := by
  obtain ⟨hactive, hretiring, hcounter⟩ := htables
  constructor
  · rw [hactive, hretiring, hcounter]; exact h.active
  · rw [hretiring, hcounter]; exact h.retiring
  · intro ln; rw [hactive, hretiring, hadopted]; exact h.adopted ln
  · intro ln c hc; rw [hadopted]; exact hcontext ln c hc

theorem State.GenerationInv.congr (h : s.GenerationInv) (htables : s.tables.Alike t.tables)
    (hadopted : ∀ ln, (t.asm ln).adopted = (s.asm ln).adopted)
    (hcontext : ∀ ln c, (t.asm ln).context = some c → (s.asm ln).adopted = some c.generation) : t.GenerationInv := by
  obtain ⟨hgenerations, hheld⟩ := s.generationInv_iff.1 h
  refine t.generationInv_iff.2 ⟨hgenerations.congr htables hadopted hcontext, fun g hg => ?_⟩
  have hg := hheld g (htables.retiring ▸ hg)
  rw [State.someLaneHolds_iff] at hg ⊢
  simpa only [hadopted] using hg

/-- Untouched assemblers and tables keep the generations in order. -/
theorem State.GenerationInv.of_asm (h : s.GenerationInv) (htables : s.tables.Alike t.tables) (hasm : ∀ ln, t.asm ln = s.asm ln) :
    t.GenerationInv :=
  h.congr htables (fun ln => by rw [hasm]) fun ln c hc => h.generations.context ln c (hasm ln ▸ hc)

/-- Freeing brings the order about that R153 gives. -/
theorem State.freeRetiring_generationInv (h : s.Generations) : s.freeRetiring.GenerationInv := by
  unfold State.freeRetiring
  split
  · next hnone => exact s.generationInv_iff.2 ⟨h, fun g hg => by rw [hnone] at hg; cases hg⟩
  · next r hr =>
    split
    · next hheld =>
      refine s.generationInv_iff.2 ⟨h, fun g hg => ?_⟩
      rw [hr] at hg
      cases hg
      exact hheld
    · next hfree =>
      refine (State.generationInv_iff _).2 ⟨⟨?_, fun g hg => (by cases hg), fun ln g hg => ?_, h.context⟩,
        fun g hg => (by cases hg)⟩
      · have hactive := h.active
        cases ha : s.tables.active with
        | none => simp only [ha] at hactive ⊢; exact ⟨hactive.1, trivial⟩
        | some a => simp only [ha] at hactive ⊢; exact hactive
      · rcases h.adopted ln g hg with hactive | hretiring
        · exact .inl hactive
        · rw [hr] at hretiring
          cases hretiring
          exact absurd ((s.someLaneHolds_iff _).2 ⟨ln, r, hg, rfl⟩) hfree

/-! ## Adoption -/

/-- A lane that has taken a generation, with the Capture Unit told when that puts the lane OUT (R75, R76). -/
def State.taken (s : State) (g : Generation) (ln : LaneId) : State :=
  let l := s.lanes.get ln
  let w := g.set.lanes.get ln
  let taken := s.setLane ln { l with
    asm := l.asm.adopt g w
    matcher := { l.matcher with windows := some (windowsOf w s.tb.nRef) } }
  if l.asm.service = .inService ∧ w.enabled = false then taken.captureLaneOut ln else taken

theorem State.adopt_eq {g : Generation} (hg : s.tables.active = some g) (ln : LaneId) :
    s.adopt ln = (s.taken g ln).freeRetiring.raiseReported (s.lanes.get ln).reported ln := by
  simp only [State.adopt, hg, State.taken]

theorem State.captureLaneOut_lanes (s : State) (ln : LaneId) : (s.captureLaneOut ln).lanes = s.lanes := by
  unfold State.captureLaneOut State.takeLaneOut
  split
  · rfl
  · split <;> rfl

theorem State.captureLaneOut_tables (s : State) (ln : LaneId) : (s.captureLaneOut ln).tables = s.tables := by
  unfold State.captureLaneOut State.takeLaneOut
  split
  · rfl
  · split <;> rfl

theorem State.taken_tables (s : State) (g : Generation) (ln : LaneId) : (s.taken g ln).tables = s.tables := by
  unfold State.taken
  dsimp only
  split
  · rw [State.captureLaneOut_tables]; rfl
  · rfl

theorem State.taken_asm (s : State) (g : Generation) (ln k : LaneId) :
    (s.taken g ln).asm k = if k = ln then (s.asm ln).adopt g (g.set.lanes.get ln) else s.asm k := by
  have hlanes : (s.taken g ln).lanes = s.lanes.set ln { s.lanes.get ln with
      asm := (s.asm ln).adopt g (g.set.lanes.get ln)
      matcher := { s.matcher ln with windows := some (windowsOf (g.set.lanes.get ln) s.tb.nRef) } } := by
    unfold State.taken
    dsimp only
    split
    · rw [State.captureLaneOut_lanes]; rfl
    · rfl
  rw [State.asm, hlanes, Four.get_set]
  split <;> rfl

theorem State.taken_generations {g : Generation} (h : s.Generations) (hg : s.tables.active = some g) {ln : LaneId}
    (hidle : (s.asm ln).context = none) : (s.taken g ln).Generations := by
  constructor
  · rw [State.taken_tables]; exact h.active
  · rw [State.taken_tables]; exact h.retiring
  · intro k x hx
    rw [State.taken_tables]
    rw [State.taken_asm] at hx
    split at hx
    · cases hx; exact .inl hg
    · exact h.adopted k x hx
  · intro k c hc
    rw [State.taken_asm] at hc ⊢
    split at hc
    · exact absurd (hidle.symm.trans hc) (by simp)
    · next hk => rw [if_neg hk]; exact h.context k c hc

theorem State.raiseReported_asm (s : State) (r : Reported) (ln k : LaneId) : (s.raiseReported r ln).asm k = s.asm k := by
  rw [State.asm, State.raiseReported_lanes]; rfl

/-- The adoption of an IDLE lane. -/
theorem State.adopt_generationInv (h : s.Generations) {ln : LaneId} (hidle : (s.asm ln).context = none) :
    (s.adopt ln).GenerationInv := by
  cases hg : s.tables.active with
  | none =>
    rw [State.adopt_none hg]
    have hactive := h.active
    rw [hg] at hactive
    exact s.generationInv_iff.2 ⟨h, fun g hr => by rw [hactive.2] at hr; cases hr⟩
  | some g =>
    rw [State.adopt_eq hg]
    refine (State.freeRetiring_generationInv (State.taken_generations h hg hidle)).of_asm
      (.of_eq (State.raiseReported_frame _ _ _).tables) fun k => State.raiseReported_asm _ _ _ k

theorem State.adoptIfQuiet_generations (ln : LaneId) (h : s.Generations) : (s.adoptIfQuiet ln).Generations := by
  unfold State.adoptIfQuiet
  split
  · next hq =>
    rw [Bool.and_eq_true, State.quiet_iff] at hq
    exact (State.adopt_generationInv h hq.1.1).generations
  · exact h

theorem State.adoptIfQuiet_generationInv (s : State) (ln : LaneId) (h : s.GenerationInv) : (s.adoptIfQuiet ln).GenerationInv := by
  unfold State.adoptIfQuiet
  split
  · next hq =>
    rw [Bool.and_eq_true, State.quiet_iff] at hq
    exact State.adopt_generationInv h.generations hq.1.1
  · exact h

/-! ## The traffic path -/

/-- An assembler takes another context that holds the lane's generation. -/
theorem State.setAsm_generationInv (h : s.GenerationInv) {ln : LaneId} {a : Assembler} (hadopted : a.adopted = (s.asm ln).adopted)
    (hcontext : ∀ c, a.context = some c → (s.asm ln).adopted = some c.generation) : (s.setAsm ln a).GenerationInv := by
  refine h.congr (TableStore.Alike.refl _) (fun k => ?_) fun k c hc => ?_
  · by_cases hk : k = ln
    · subst hk; rw [State.asm_setAsm, hadopted]
    · rw [State.asm_setAsm_ne s a hk]
  · by_cases hk : k = ln
    · subst hk; rw [State.asm_setAsm] at hc; exact hcontext c hc
    · rw [State.asm_setAsm_ne s a hk] at hc; exact h.generations.context k c hc

theorem State.captureOpen_tables (s : State) (ln : LaneId) (time : Tick) : (s.captureOpen ln time).tables = s.tables := by
  unfold State.captureOpen State.takeOpen
  dsimp only
  split
  · split
    · rfl
    · split <;> rfl
  · rfl

theorem generationInv_traffic : TrafficKeeps State.GenerationInv where
  reports := fun _ _ h => h.of_asm (TableStore.Alike.refl _) fun _ => rfl
  setMatcher := fun s ln m h => h.of_asm (TableStore.Alike.refl _) (s.asm_setMatcher ln · m)
  adoptIfQuiet := fun s ln h => s.adoptIfQuiet_generationInv ln h
  openVehicle := fun s ln axle split h => by
    unfold State.openVehicle
    dsimp only
    cases hg : (s.asm ln).adopted with
    | none => exact h
    | some g =>
      exact (State.setAsm_generationInv h (ln := ln) (by exact hg.symm) (fun c hc => by cases hc; exact hg)).of_asm
        (.of_eq (State.captureOpen_tables _ _ _)) (State.captureOpen_lanes _ _ _).asm
  close := fun s ln ctx split tailgate timeout _ h => by
    unfold State.close
    exact (State.setAsm_generationInv h (ln := ln)
      (a := { s.asm ln with context := none, heldSpeed := heldAfter (s.asm ln).heldSpeed _ }) rfl
      (fun _ hc => by cases hc)).of_asm (TableStore.Alike.refl _) fun _ => rfl
  join := fun s ln ctx now spacing x hctx _ h =>
    State.setAsm_generationInv h rfl fun c hc => by cases hc; exact h.generations.context ln ctx hctx

/-! ## Starts and commits -/

theorem nextGeneration_range {n : Nat} : 1 ≤ nextGeneration n ∧ nextGeneration n ≤ 65535 := by
  unfold nextGeneration
  split <;> omega

/-- A commit's new generation is active and the one before it retiring, until the lanes have been asked. -/
theorem State.promote_generations (h : s.Generations) (hnone : s.tables.retiring = none) (set : TableSet) (reset : Bool) :
    (s.promote set reset).Generations := by
  have hasm := (s.promote_lanesKept set reset).asm
  constructor
  · exact ⟨rfl, nextGeneration_range.1, nextGeneration_range.2⟩
  · intro g hg
    have hactive := h.active
    change s.tables.active = some g at hg
    rw [hg] at hactive
    obtain ⟨hcounter, hlo, hhi⟩ := hactive
    exact ⟨hlo, hhi, by rw [hcounter]; rfl⟩
  · intro ln g hg
    rw [hasm] at hg
    rcases h.adopted ln g hg with hactive | hretiring
    · exact .inr hactive
    · rw [hnone] at hretiring; cases hretiring
  · intro ln c hc
    rw [hasm] at hc ⊢
    exact h.context ln c hc

theorem State.settle_generations (h : s.Generations) : s.settle.Generations := by
  rw [State.settle_eq]
  exact State.adoptIfQuiet_generations 3 (State.adoptIfQuiet_generations 2 (State.adoptIfQuiet_generations 1
    (State.adoptIfQuiet_generations 0 h)))

theorem State.commit_generationInv (h : s.GenerationInv) (hnone : s.tables.retiring = none) (set : TableSet) (reset : Bool) :
    (s.commit set reset).GenerationInv :=
  State.freeRetiring_generationInv (State.settle_generations (State.promote_generations h.generations hnone set reset))

theorem State.emptied_tables (s : State) : s.emptied.tables = { s.tables with staging := none } := by
  unfold State.emptied
  rw [← s.restartUnits_frame.tables]
  generalize s.restartUnits = u
  rw [State.setStaging_tables, State.restartGate_frame]
  rfl

theorem State.emptied_generations (h : s.Generations) : s.emptied.Generations :=
  h.congr ⟨by rw [State.emptied_tables], by rw [State.emptied_tables], by rw [State.emptied_tables]⟩
    (fun ln => by rw [State.emptied_asm]) fun ln c hc => by rw [State.emptied_asm] at hc; cases hc

theorem State.adopts_generations (l : List LaneId) (h : s.Generations) (hidle : ∀ ln, (s.asm ln).context = none) :
    (l.foldl State.adopt s).Generations := by
  induction l generalizing s with
  | nil => exact h
  | cons ln l ih =>
    refine ih (State.adopt_generationInv h (hidle ln)).generations fun k => ?_
    cases hg : s.tables.active with
    | none => rw [State.adopt_none hg]; exact hidle k
    | some g =>
      by_cases hk : k = ln
      · subst hk; rw [State.adopt_asm hg]; exact hidle k
      · rw [State.adopt_asm_ne hg hk]; exact hidle k

theorem State.restartBlocks_generationInv (h : s.GenerationInv) : s.restartBlocks.GenerationInv := by
  rw [State.restartBlocks_eq]
  have hadopted := State.adopts_generations fours (State.emptied_generations h.generations)
    (fun ln => by rw [State.emptied_asm])
  exact (State.freeRetiring_generationInv hadopted).of_asm (.of_eq (State.reopenTallies_tables _))
    (State.reopenTallies_lanesKept _).asm

theorem State.reset_asm (ln : LaneId) : State.reset.asm ln = Assembler.start := by simp [State.asm, State.reset, Lane.start]

theorem State.reset_generationInv : State.reset.GenerationInv := by
  refine ⟨⟨rfl, rfl⟩, fun g hg => (by cases hg), fun ln g hg => ?_, fun ln c hc => ?_⟩
  · rw [State.reset_asm] at hg; cases hg
  · rw [State.reset_asm] at hc; cases hc

end

/-! ## All commands -/

/-- The commands that reach no lane change of the tables at most the staging, and take at most an offer to the Drift Tracker. -/
theorem exec_tables (c : Instr) (s t : State) (hc : reachesLanes c = false) (h : exec c s = .next t) :
    s.tables.Alike t.tables ∧ (t.tables.staging = s.tables.staging ∨ (∃ tag body, c = .stageOpen tag body) ∨
      (∃ tag body, c = .stagePut tag body) ∨ ∃ tag body, c = .stageDiscard tag body) ∧
    (t.mail.driftOffers = s.mail.driftOffers ∨ c = .driftPolicyTake) := by
  have same : t.tables = s.tables → t.mail.driftOffers = s.mail.driftOffers → s.tables.Alike t.tables ∧
      (t.tables.staging = s.tables.staging ∨ (∃ tag body, c = .stageOpen tag body) ∨
        (∃ tag body, c = .stagePut tag body) ∨ ∃ tag body, c = .stageDiscard tag body) ∧
      (t.mail.driftOffers = s.mail.driftOffers ∨ c = .driftPolicyTake) :=
    fun heq hoffers => ⟨.of_eq heq, .inl (by rw [heq]), .inl hoffers⟩
  cases c
  case powerOn => cases hc
  case channelSample => cases hc
  case refEdge => cases hc
  case timebaseSilence => cases hc
  case freeRunningBoundary => cases hc
  case pulseReport => cases hc
  case holdExpiry => cases hc
  case pendingExpiry => cases hc
  case deliveryMarkLapse => cases hc
  case presenceSample => cases hc
  case gapWithLoop => cases hc
  case gapWithoutLoop => cases hc
  case timeout => cases hc
  case restart => cases hc
  case stageCommit => cases hc
  case stageOpen =>
    refine ⟨?_, by simp, .inl (by rw [execStageOpen_frame h])⟩
    injection h with h
    subst h
    repeat' split
    all_goals exact ⟨rfl, rfl, rfl⟩
  case stagePut =>
    refine ⟨?_, by simp, .inl (by rw [execStagePut_frame h])⟩
    injection h with h
    subst h
    repeat' split
    all_goals exact ⟨rfl, rfl, rfl⟩
  case stageDiscard =>
    refine ⟨?_, by simp, .inl (by rw [execStageDiscard_frame h])⟩
    injection h with h
    subst h
    repeat' split
    all_goals exact ⟨rfl, rfl, rfl⟩
  case driftPolicyTake =>
    exact ⟨.of_eq (by rw [execDriftPolicyTake_frame h]), .inl (by rw [execDriftPolicyTake_frame h]), .inr rfl⟩
  case pulseOverlong => exact same (execPulseOverlong_channel h).tables (by rw [(execPulseOverlong_channel h).mail])
  case channelSettingsWaiting => exact same (execChannelSettingsWaiting_channel h).tables (by rw [(execChannelSettingsWaiting_channel h).mail])
  case channelSupervision => exact same (execChannelSupervision_channel h).tables (by rw [(execChannelSupervision_channel h).mail])
  case channelRestore => exact same (execChannelRestore_channel h).tables (by rw [(execChannelRestore_channel h).mail])
  case gateEnd => exact same (execGateEnd_frame h).tables (by rw [(execGateEnd_frame h).mail])
  case probeSettingsTake => exact same (execProbeSettingsTake_frame h).tables (by rw [(execProbeSettingsTake_frame h).mail])
  case probeRestore => exact same (execProbeRestore_frame h).tables (by rw [(execProbeRestore_frame h).mail])
  case probeEdge => exact same (execProbeEdge_frame h).tables (by rw [(execProbeEdge_frame h).mail])
  case recordStoreDelivery => exact same (by rw [execRecordStoreDelivery_frame h]) (by rw [execRecordStoreDelivery_mail h])
  case tallyRecord => exact same (by rw [execTallyRecord_frame h]) (by rw [execTallyRecord_mail h])
  case tallyDrop => exact same (by rw [execTallyDrop_frame h]) (by rw [execTallyDrop_mail h])
  case driftFeed => exact same (by rw [execDriftFeed_frame h]) (by rw [execDriftFeed_mail h])
  case captureCloseTest => exact same (by rw [execCaptureCloseTest_frame h]) (by rw [execCaptureCloseTest_mail h])
  case siteSettingsTake => exact same (by rw [execSiteSettingsTake_frame h]) (by rw [execSiteSettingsTake_mail h])
  case captureWrite => exact same (by rw [execCaptureWrite_frame h]) (by rw [execCaptureWrite_frame h])
  case inboundByte => exact same (by rw [execInboundByte_frame h]) (by rw [execInboundByte_frame h])
  case frameGapExpiry => exact same (by rw [execFrameGapExpiry_frame h]) (by rw [execFrameGapExpiry_frame h])
  case transmitEnd => exact same (by rw [execTransmitEnd_frame h]) (by rw [execTransmitEnd_frame h])
  case unknownRequest => exact same (by rw [execUnknownRequest_frame h]) (by rw [execUnknownRequest_frame h])
  case status => exact same (by rw [execStatus_frame h]) (by rw [execStatus_frame h])
  case liveRead => exact same (by rw [execLiveRead_frame h]) (by rw [execLiveRead_frame h])
  case timeSet => exact same (by rw [execTimeSet_frame h]) (by rw [execTimeSet_frame h])
  case tableRead => exact same (by rw [execTableRead_frame h]) (by rw [execTableRead_frame h])
  case driftGet => exact same (by rw [execDriftGet_frame h]) (by rw [execDriftGet_frame h])
  case driftSet => exact same (by rw [execDriftSet_frame h]) (by rw [execDriftSet_frame h])
  case driftFreeze => exact same (by rw [execDriftFreeze_frame h]) (by rw [execDriftFreeze_frame h])
  case recordFetch => exact same (by rw [execRecordFetch_frame h]) (by rw [execRecordFetch_frame h])
  case recordRelease => exact same (by rw [execRecordRelease_frame h]) (by rw [execRecordRelease_frame h])
  case tallyFetch => exact same (by rw [execTallyFetch_frame h]) (by rw [execTallyFetch_frame h])
  case tallyRelease => exact same (by rw [execTallyRelease_frame h]) (by rw [execTallyRelease_frame h])
  case captureArm => exact same (by rw [execCaptureArm_frame h]) (by rw [execCaptureArm_frame h])
  case captureFetch => exact same (by rw [execCaptureFetch_frame h]) (by rw [execCaptureFetch_frame h])
  case captureRelease => exact same (by rw [execCaptureRelease_frame h]) (by rw [execCaptureRelease_frame h])

/-- A presence sample changes of a context at most the mark that presence fell (R78). -/
theorem Assembler.samplePresence_context (a : Assembler) (level : Bool) :
    ∀ c, (a.samplePresence level).context = some c →
      ∃ c', a.context = some c' ∧ c = { c' with fell := c.fell } := by
  intro c hc
  by_cases hagrees : level = a.presence
  · rw [Assembler.samplePresence_agrees hagrees] at hc; exact ⟨c, hc, rfl⟩
  · by_cases hrun : a.presenceRun < 49
    · rw [Assembler.samplePresence_counts hagrees hrun] at hc; exact ⟨c, hc, rfl⟩
    · cases level with
      | true =>
        rw [Assembler.samplePresence_rises (Bool.eq_false_iff.2 (Ne.symm hagrees)) (Nat.le_of_not_lt hrun)] at hc
        exact ⟨c, hc, rfl⟩
      | false =>
        rw [Assembler.samplePresence_falls (Bool.eq_true_of_not_eq_false (Ne.symm hagrees)) (Nat.le_of_not_lt hrun),
          Assembler.presenceFell_eq] at hc
        dsimp only at hc
        split at hc
        · obtain ⟨c', hc', rfl⟩ := Option.map_eq_some_iff.1 hc
          exact ⟨c', hc', rfl⟩
        · exact ⟨c, hc, rfl⟩

theorem exec_generationInv (c : Instr) (s t : State) (h : s.GenerationInv) (he : exec c s = .next t) : t.GenerationInv := by
  by_cases hreach : reachesLanes c = false
  · exact h.of_asm (exec_tables c s t hreach he).1 (exec_lanesKept c s t hreach he).asm
  cases c
  case powerOn rate1 rate0 =>
    injection he with he
    subst he
    exact State.reset_generationInv.of_asm (TableStore.Alike.refl _) fun _ => rfl
  case channelSample =>
    exact h.of_asm (.of_eq (execChannelSample_channel he).tables) (execChannelSample_channel he).asm
  case refEdge => exact h.of_asm (.of_eq (execRefEdge_clock he).tables) (execRefEdge_clock he).asm
  case timebaseSilence => exact h.of_asm (.of_eq (execTimebaseSilence_clock he).tables) (execTimebaseSilence_clock he).asm
  case freeRunningBoundary =>
    exact h.of_asm (.of_eq (execFreeRunningBoundary_clock he).tables) (execFreeRunningBoundary_clock he).asm
  case pulseReport => exact generationInv_traffic.execPulseReport h he
  case holdExpiry => exact generationInv_traffic.execHoldExpiry h he
  case pendingExpiry => exact generationInv_traffic.execPendingExpiry h he
  case deliveryMarkLapse => exact generationInv_traffic.execDeliveryMarkLapse h he
  case gapWithLoop => exact generationInv_traffic.execGapWithLoop h he
  case gapWithoutLoop => exact generationInv_traffic.execGapWithoutLoop h he
  case timeout => exact generationInv_traffic.execTimeout h he
  case presenceSample ln level =>
    injection he with he
    subst he
    refine State.setAsm_generationInv h ((s.asm ln).samplePresence_alike level).1 fun c hc => ?_
    obtain ⟨c', hc', heq⟩ := (s.asm ln).samplePresence_context level c hc
    rw [h.generations.context ln c' hc', heq]
  case restart =>
    rcases execRestart_cases he with ⟨-, rfl⟩ | ⟨-, rfl⟩
    · exact h.of_asm (TableStore.Alike.refl _) fun _ => rfl
    · exact (s.restartBlocks_generationInv h).of_asm (.of_eq (by rw [State.raise_tables, State.answer_tables]))
        ((State.answer_lanesKept _ _ _ _ _).trans (State.raise_lanesKept _ _)).asm
  case stageCommit =>
    rcases execStageCommit_cases he with ⟨reply, rfl⟩ | ⟨x, reset, reply, -, hnone, -, -, rfl⟩
    · exact h.of_asm (TableStore.Alike.refl _) fun _ => rfl
    · exact (State.commit_generationInv h hnone x.set reset).of_asm (.of_eq (State.answer_tables _ _ _ _ _))
        (State.answer_lanesKept _ _ _ _ _).asm
  all_goals exact absurd rfl hreach

theorem State.idle_generationInv (s : State) (h : s.GenerationInv) : s.idle.GenerationInv := by
  rcases s.idle_cases with ⟨-, -, hidle⟩ | hidle
  all_goals rw [hidle]; exact h

end Sys2Proof.Machine
end

section
/-! The site tables every step keeps in order (R132, R136, R147, R149): each set held or handed on has passed its checks, and each
drift batch is smaller than the batch size. -/

namespace Sys2Proof.Machine

section
variable {s t : State}

/-! ## Sets that have passed their checks -/

theorem TableSet.standard_itemsOk : TableSet.standard.ItemsOk := by
  have hclass : ∀ r ∈ TableSet.standard.classes, r.all ClassRule.ok = true := fun r hr => by
    rw [List.eq_of_mem_replicate hr]; rfl
  refine ⟨by decide, fun n => ?_, fun ch => ?_, fun n => ?_, by decide, List.length_replicate .., hclass, by decide, fun p => ?_⟩
  · rw [show TableSet.standard.lanes.get n = LaneItem.standard from Four.get_fill _ _]; decide
  · rw [show (TableSet.standard.channels.get ch.lane).get ch.strip = ChannelItem.standard by
      simp [TableSet.standard]]
    decide
  · rw [show TableSet.standard.speedTabs.get n = [(50, 16384), (150, 16384)] from Four.get_fill _ _]; decide
  · rw [show TableSet.standard.probes.get p = ProbeItem.standard from Four.get_fill _ _]; decide

/-- An item that passes its checks takes its place in a set that has passed its own (R146, R147). -/
theorem TableSet.put_itemsOk {x : TableSet} (h : x.ItemsOk) {i : Item} (hi : i.ok = true) : (x.put i).ItemsOk := by
  obtain ⟨hsite, hlanes, hchannels, hspeeds, htemps, hcount, hclasses, hdrift, hprobes⟩ := h
  cases i with
  | site v => exact ⟨hi, hlanes, hchannels, hspeeds, htemps, hcount, hclasses, hdrift, hprobes⟩
  | lane n v =>
    refine ⟨hsite, fun k => ?_, hchannels, hspeeds, htemps, hcount, hclasses, hdrift, hprobes⟩
    rw [TableSet.put, Four.get_set]
    split
    · exact hi
    · exact hlanes k
  | channel ch v =>
    refine ⟨hsite, hlanes, fun k => ?_, hspeeds, htemps, hcount, hclasses, hdrift, hprobes⟩
    rw [TableSet.put, Four.get_set]
    split
    · next hk =>
      rw [Four.get_set]
      split
      · exact hi
      · exact hk ▸ hchannels k
    · exact hchannels k
  | speedTab n points =>
    refine ⟨hsite, hlanes, hchannels, fun k => ?_, htemps, hcount, hclasses, hdrift, hprobes⟩
    rw [TableSet.put, Four.get_set]
    split
    · exact hi
    · exact hspeeds k
  | tempTab factors => exact ⟨hsite, hlanes, hchannels, hspeeds, hi, hcount, hclasses, hdrift, hprobes⟩
  | classRule i v =>
    refine ⟨hsite, hlanes, hchannels, hspeeds, htemps, (List.length_set ..).trans hcount, fun r hr => ?_, hdrift, hprobes⟩
    rcases List.mem_or_eq_of_mem_set hr with hr | rfl
    · exact hclasses r hr
    · exact hi
  | drift v => exact ⟨hsite, hlanes, hchannels, hspeeds, htemps, hcount, hclasses, hi, hprobes⟩
  | probe p v =>
    refine ⟨hsite, hlanes, hchannels, hspeeds, htemps, hcount, hclasses, hdrift, fun k => ?_⟩
    rw [TableSet.put, Four.get_set]
    split
    · exact hi
    · exact hprobes k

theorem acceptedItem_ok {id : ItemId} {fields : List Byte} {i : Item} (h : acceptedItem id fields = some i) : i.ok = true := by
  obtain ⟨x, -, hx⟩ := Option.bind_eq_some_iff.1 h
  split at hx
  · next hok => cases hx; exact hok
  · cases hx

theorem stagePutItem_ok {body : List Byte} {i : Item} (h : stagePutItem body = some i) : i.ok = true := by
  unfold stagePutItem at h
  split at h
  · obtain ⟨id, -, hid⟩ := Option.bind_eq_some_iff.1 h
    exact acceptedItem_ok hid
  · cases h

/-- A batch of a checked policy holds eight samples at least. -/
theorem DriftItem.batch_pos {v : DriftItem} (h : v.ok = true) : 0 < v.batch := by
  simp only [DriftItem.ok, Bool.and_eq_true, within_iff] at h
  omega

/-! ## The invariant and what it speaks of -/

/-- The tracker's policy is checked and its batches are smaller than the batch size. -/
def DriftTracker.Ok (d : DriftTracker) : Prop :=
  d.policy.ok = true ∧ ∀ (ln : LaneId) (b : Band), ((d.lanes.get ln).bands.get b).n < d.policy.batch

/-- Every set of the table store, of the lanes and of the offers is in order (the tracker apart). -/
structure State.SetsOk (s : State) : Prop where
  staging : ∀ x, s.tables.staging = some x → x.set.ItemsOk
  active : ∀ g, s.tables.active = some g → g.Ok
  retiring : ∀ g, s.tables.retiring = some g → g.Ok
  adopted : ∀ ln g, (s.asm ln).adopted = some g → g.Ok
  offers : ∀ o ∈ s.mail.driftOffers, o.policy.ok = true

theorem State.settingsInv_iff (s : State) : s.SettingsInv ↔ s.SetsOk ∧ s.drift.Ok := by
  constructor
  · rintro ⟨hstaging, hactive, hretiring, hadopted, hoffers, hdrift⟩
    exact ⟨⟨hstaging, hactive, hretiring, hadopted, hoffers⟩, hdrift⟩
  · rintro ⟨⟨hstaging, hactive, hretiring, hadopted, hoffers⟩, hdrift⟩
    exact ⟨hstaging, hactive, hretiring, hadopted, hoffers, hdrift⟩

/-- Nothing new is held but what the tables or the lanes held before. -/
theorem State.SetsOk.congr (h : s.SetsOk) (hstaging : t.tables.staging = s.tables.staging)
    (hactive : t.tables.active = s.tables.active)
    (hretiring : ∀ g, t.tables.retiring = some g → s.tables.retiring = some g)
    (hadopted : ∀ ln g, (t.asm ln).adopted = some g → (s.asm ln).adopted = some g ∨ s.tables.active = some g)
    (hoffers : t.mail.driftOffers = s.mail.driftOffers) : t.SetsOk where
  staging := hstaging ▸ h.staging
  active := hactive ▸ h.active
  retiring := fun g hg => h.retiring g (hretiring g hg)
  adopted := fun ln g hg => (hadopted ln g hg).elim (h.adopted ln g) (h.active g)
  offers := hoffers ▸ h.offers

/-- The tables, the offers and what each lane has adopted are as they were. -/
theorem State.SetsOk.of_same (h : s.SetsOk) (htables : t.tables = s.tables)
    (hadopted : ∀ ln, (t.asm ln).adopted = (s.asm ln).adopted) (hoffers : t.mail.driftOffers = s.mail.driftOffers) : t.SetsOk :=
  h.congr (by rw [htables]) (by rw [htables]) (fun g hg => by rwa [htables] at hg)
    (fun ln g hg => .inl (hadopted ln ▸ hg)) hoffers

/-! ## Traffic -/

theorem State.freeRetiring_retiring {g : Generation} (h : s.freeRetiring.tables.retiring = some g) :
    s.tables.retiring = some g := by
  unfold State.freeRetiring at h
  split at h
  · exact h
  · split at h
    · exact h
    · cases h

theorem State.freeRetiring_setsOk (h : s.SetsOk) : s.freeRetiring.SetsOk := by
  have hf := s.freeRetiring_frame
  exact h.congr (by rw [hf.tables]) (by rw [hf.tables]) (fun _ => State.freeRetiring_retiring)
    (fun ln g hg => .inl (by rwa [s.freeRetiring_lanesKept.asm] at hg)) (by rw [hf.mail])

theorem State.adopt_setsOk (ln : LaneId) (h : s.SetsOk) : (s.adopt ln).SetsOk := by
  cases hg : s.tables.active with
  | none => rwa [State.adopt_none hg]
  | some g =>
    have hf := s.adopt_frame ln
    refine h.congr (by rw [hf.tables]) (by rw [hf.tables]) (fun r hr => ?_) (fun k x hx => ?_) (by rw [hf.mail])
    · rw [State.adopt_eq hg, (State.raiseReported_frame _ _ _).tables] at hr
      rw [← s.taken_tables g ln]
      exact State.freeRetiring_retiring hr
    · by_cases hk : k = ln
      · subst hk
        rw [State.adopt_asm hg] at hx
        cases hx
        exact .inr hg
      · rw [State.adopt_asm_ne hg hk] at hx
        exact .inl hx

theorem State.setAsm_setsOk (h : s.SetsOk) {ln : LaneId} {a : Assembler} (hadopted : a.adopted = (s.asm ln).adopted) :
    (s.setAsm ln a).SetsOk := by
  refine h.of_same rfl (fun k => ?_) rfl
  by_cases hk : k = ln
  · subst hk; rw [State.asm_setAsm, hadopted]
  · rw [State.asm_setAsm_ne s a hk]

theorem setsOk_traffic : TrafficKeeps State.SetsOk where
  reports := fun _ _ h => h.of_same rfl (fun _ => rfl) rfl
  setMatcher := fun s ln m h => h.of_same rfl (fun k => by rw [s.asm_setMatcher ln k m]) rfl
  adoptIfQuiet := fun s ln h => by
    unfold State.adoptIfQuiet
    split
    · exact State.adopt_setsOk ln h
    · exact h
  openVehicle := fun s ln axle split h => by
    unfold State.openVehicle
    dsimp only
    split
    · exact h
    · exact (State.setAsm_setsOk h (ln := ln) (by rfl)).of_same (State.captureOpen_tables _ _ _)
        (fun k => by rw [(State.captureOpen_lanes _ _ _).asm]) (by rw [(State.captureOpen_frame _ _ _).mail])
  close := fun s ln ctx split tailgate timeout _ h => by
    unfold State.close
    exact (State.setAsm_setsOk h (ln := ln)
      (a := { s.asm ln with context := none, heldSpeed := heldAfter (s.asm ln).heldSpeed _ }) rfl).of_same rfl (fun _ => rfl) rfl
  join := fun s ln ctx now spacing x _ _ h => State.setAsm_setsOk h rfl

/-! ## Staging, starts and commits -/

theorem TableSet.ItemsOk.generation_ok {x : TableSet} (h : x.ItemsOk) (hf : x.firstFailure = none) (n : Nat) :
    (x.generation n).Ok := ⟨h, hf, rfl⟩

theorem TableStore.openCopy_itemsOk {u : TableStore} (h : ∀ g, u.active = some g → g.Ok) : u.openCopy.set.ItemsOk := by
  unfold TableStore.openCopy
  split
  · next g hg => exact (h g hg).1
  · exact TableSet.standard_itemsOk

/-- A staging set that is in order, or none. -/
theorem State.setStaging_setsOk (h : s.SetsOk) {x : Option Staging} (hx : ∀ y, x = some y → y.set.ItemsOk) :
    (s.setStaging x).SetsOk := ⟨hx, h.active, h.retiring, h.adopted, h.offers⟩

theorem State.answer_setsOk (h : s.SetsOk) (kind tag : Byte) (body reply : List Byte) : (s.answer kind tag body reply).SetsOk :=
  h.of_same rfl (fun _ => rfl) rfl

theorem execStageOpen_setsOk {tag : Byte} {body : List Byte} (h : s.SetsOk) (he : execStageOpen tag body s = .next t) :
    t.SetsOk := by
  injection he with he
  subst he
  split
  · exact State.answer_setsOk h _ _ _ _
  · split
    · exact State.answer_setsOk h _ _ _ _
    · exact State.answer_setsOk (State.setStaging_setsOk h fun y hy => by
        cases hy; exact TableStore.openCopy_itemsOk h.active) _ _ _ _

theorem execStagePut_setsOk {tag : Byte} {body : List Byte} (h : s.SetsOk) (he : execStagePut tag body s = .next t) :
    t.SetsOk := by
  injection he with he
  subst he
  split
  · exact State.answer_setsOk h _ _ _ _
  · split
    · exact State.answer_setsOk h _ _ _ _
    · exact State.answer_setsOk h _ _ _ _
    · next x i hx hi =>
      exact State.answer_setsOk (State.setStaging_setsOk h fun y hy => by
        cases hy; exact TableSet.put_itemsOk (h.staging x hx) (stagePutItem_ok hi)) _ _ _ _

theorem execStageDiscard_setsOk {tag : Byte} {body : List Byte} (h : s.SetsOk) (he : execStageDiscard tag body s = .next t) :
    t.SetsOk := by
  injection he with he
  subst he
  split
  · exact State.answer_setsOk h _ _ _ _
  · split
    · exact State.answer_setsOk h _ _ _ _
    · exact State.answer_setsOk (State.setStaging_setsOk h fun y hy => by cases hy) _ _ _ _

theorem State.promote_setsOk (h : s.SetsOk) {x : TableSet} (hx : x.ItemsOk) (hf : x.firstFailure = none) (reset : Bool) :
    (s.promote x reset).SetsOk where
  staging := fun y hy => by cases hy
  active := fun g hg => by cases hg; exact hx.generation_ok hf _
  retiring := fun g hg => h.active g hg
  adopted := fun ln g hg => h.adopted ln g (by rwa [(s.promote_lanesKept x reset).asm] at hg)
  offers := fun o ho => by
    rcases List.mem_append.1 ho with ho | ho
    · exact h.offers o ho
    · rw [List.mem_singleton] at ho
      subst ho
      obtain ⟨-, -, -, -, -, -, -, hdrift, -⟩ := hx
      exact hdrift

theorem State.commit_setsOk (h : s.SetsOk) {x : TableSet} (hx : x.ItemsOk) (hf : x.firstFailure = none) (reset : Bool) :
    (s.commit x reset).SetsOk :=
  State.freeRetiring_setsOk (setsOk_traffic.settle (State.promote_setsOk h hx hf reset))

theorem State.emptied_setsOk (h : s.SetsOk) : s.emptied.SetsOk where
  staging := fun x hx => by rw [State.emptied_tables] at hx; cases hx
  active := by rw [State.emptied_tables]; exact h.active
  retiring := by rw [State.emptied_tables]; exact h.retiring
  adopted := fun ln => by rw [State.emptied_asm]; exact h.adopted ln
  offers := by rw [State.emptied_mail, s.restartUnits_frame.mail]; exact h.offers

theorem State.adopts_setsOk (l : List LaneId) (h : s.SetsOk) : (l.foldl State.adopt s).SetsOk := by
  induction l generalizing s with
  | nil => exact h
  | cons ln l ih => exact ih (State.adopt_setsOk ln h)

theorem State.restartBlocks_setsOk (h : s.SetsOk) : s.restartBlocks.SetsOk := by
  rw [State.restartBlocks_eq]
  exact (State.freeRetiring_setsOk (State.adopts_setsOk fours (State.emptied_setsOk h))).of_same (State.reopenTallies_tables _)
    (fun k => by rw [(State.reopenTallies_lanesKept _).asm]) (by rw [State.reopenTallies_mail])

theorem State.reset_setsOk : State.reset.SetsOk where
  staging := fun x hx => by cases hx
  active := fun g hg => by cases hg
  retiring := fun g hg => by cases hg
  adopted := fun ln g hg => by rw [State.reset_asm] at hg; cases hg
  offers := fun o ho => by cases ho

end

theorem exec_setsOk (c : Instr) (s t : State) (h : s.SetsOk) (he : exec c s = .next t) : t.SetsOk := by
  by_cases hreach : reachesLanes c = false
  · obtain ⟨⟨hactive, hretiring, -⟩, hstaging, hoffers⟩ := exec_tables c s t hreach he
    have hasm := (exec_lanesKept c s t hreach he).asm
    rcases hstaging with hstaging | ⟨tag, body, rfl⟩ | ⟨tag, body, rfl⟩ | ⟨tag, body, rfl⟩
    · refine ⟨hstaging ▸ h.staging, hactive ▸ h.active, hretiring ▸ h.retiring, fun ln => by rw [hasm]; exact h.adopted ln, ?_⟩
      rcases hoffers with hoffers | rfl
      · rw [hoffers]; exact h.offers
      · injection he with he
        subst he
        split
        · exact h.offers
        · next o rest hmail => exact fun x hx => h.offers x (by rw [hmail]; exact List.mem_cons_of_mem _ hx)
    · exact execStageOpen_setsOk h he
    · exact execStagePut_setsOk h he
    · exact execStageDiscard_setsOk h he
  cases c
  case powerOn rate1 rate0 =>
    injection he with he
    subst he
    exact State.reset_setsOk.of_same rfl (fun _ => rfl) rfl
  case channelSample =>
    have hf := execChannelSample_channel he
    exact h.of_same hf.tables (fun ln => by rw [hf.asm]) (by rw [hf.mail])
  case refEdge =>
    have hf := execRefEdge_clock he
    exact h.of_same hf.tables (fun ln => by rw [hf.asm]) (by rw [hf.mail])
  case timebaseSilence =>
    have hf := execTimebaseSilence_clock he
    exact h.of_same hf.tables (fun ln => by rw [hf.asm]) (by rw [hf.mail])
  case freeRunningBoundary =>
    have hf := execFreeRunningBoundary_clock he
    exact h.of_same hf.tables (fun ln => by rw [hf.asm]) (by rw [hf.mail])
  case pulseReport => exact setsOk_traffic.execPulseReport h he
  case holdExpiry => exact setsOk_traffic.execHoldExpiry h he
  case pendingExpiry => exact setsOk_traffic.execPendingExpiry h he
  case deliveryMarkLapse => exact setsOk_traffic.execDeliveryMarkLapse h he
  case gapWithLoop => exact setsOk_traffic.execGapWithLoop h he
  case gapWithoutLoop => exact setsOk_traffic.execGapWithoutLoop h he
  case timeout => exact setsOk_traffic.execTimeout h he
  case presenceSample ln level =>
    injection he with he
    subst he
    exact State.setAsm_setsOk h ((s.asm ln).samplePresence_alike level).1
  case restart =>
    rcases execRestart_cases he with ⟨-, rfl⟩ | ⟨-, rfl⟩
    · exact State.answer_setsOk h _ _ _ _
    · exact (State.answer_setsOk (State.restartBlocks_setsOk h) _ _ _ _).of_same (State.raise_tables _ _)
        (fun k => by rw [(State.raise_lanesKept _ _).asm]) (by rw [State.raise_mail])
  case stageCommit =>
    rcases execStageCommit_cases he with ⟨reply, rfl⟩ | ⟨x, reset, reply, hx, -, hf, -, rfl⟩
    · exact State.answer_setsOk h _ _ _ _
    · exact State.answer_setsOk (State.commit_setsOk h (h.staging x hx) hf reset) _ _ _ _
  all_goals exact absurd rfl hreach

/-! ## The drift batches -/

section
variable {s : State}

/-- A band whose batch is smaller than the batch size takes the place of another. -/
theorem State.setDriftBand_ok (h : s.drift.Ok) (ln : LaneId) (b : Band) {x : DriftBand} (hx : x.n < s.drift.policy.batch) :
    (s.setDriftBand ln b x).drift.Ok := by
  refine ⟨h.1, fun k c => ?_⟩
  have hband := s.driftBand_setDriftBand ln k b c x
  simp only [State.driftBand] at hband
  rw [hband]
  split
  · exact hx
  · exact h.2 k c

theorem State.feed_driftOk (h : s.drift.Ok) (ln : LaneId) (b : Band) (a1 : Nat) : (s.feed ln b a1).drift.Ok := by
  by_cases hout : outsideWindow s.drift.policy a1 = true
  · rw [State.feed_rejected hout]
    exact State.setDriftBand_ok h ln b (h.2 ln b)
  · by_cases hfull : s.drift.policy.batch ≤ (s.driftBand ln b).n + 1
    · rw [State.feed_fills hout hfull, State.raise_drift]
      exact State.setDriftBand_ok h ln b (DriftItem.batch_pos h.1)
    · rw [State.feed_joins hout (Nat.lt_of_not_le hfull)]
      exact State.setDriftBand_ok h ln b (Nat.lt_of_not_le hfull)

/-- Policies that do not empty the batches have one batch size. -/
theorem DriftItem.batch_of_not_rebatches {old new : DriftItem} (h : ¬ old.rebatches new = true) : new.batch = old.batch := by
  simp only [DriftItem.rebatches, Bool.or_eq_true, decide_eq_true_eq, not_or, not_not] at h
  exact h.2.symm

theorem DriftTracker.take_ok {d : DriftTracker} (h : d.Ok) {o : DriftOffer} (ho : o.policy.ok = true) : (d.take o).Ok := by
  have hpos := DriftItem.batch_pos ho
  unfold DriftTracker.take
  dsimp only
  split
  · refine ⟨ho, fun ln b => ?_⟩
    rw [DriftTracker.mapBands_get]
    exact hpos
  · split
    · refine ⟨ho, fun ln b => ?_⟩
      rw [DriftTracker.mapBands_get]
      exact hpos
    · next hsame =>
      exact ⟨ho, fun ln b => by rw [DriftItem.batch_of_not_rebatches hsame]; exact h.2 ln b⟩

theorem DriftTracker.start_ok : DriftTracker.start.Ok := by
  refine ⟨by decide, fun ln b => ?_⟩
  have hband : (DriftTracker.start.lanes.get ln).bands.get b = DriftBand.start := by simp [DriftTracker.start]
  rw [hband]
  decide

end

theorem exec_driftOk (c : Instr) (s t : State) (h : s.SettingsInv) (he : exec c s = .next t) : t.drift.Ok := by
  obtain ⟨hsets, hdrift⟩ := s.settingsInv_iff.1 h
  rcases exec_drift c s t he with hsame | ⟨rate1, rate0, rfl⟩ | rfl | rfl | ⟨tag, body, rfl⟩ | ⟨tag, body, rfl⟩
  · rw [hsame]; exact hdrift
  all_goals injection he with he; subst he
  · exact DriftTracker.start_ok
  · split
    · exact hdrift
    · split
      · exact State.feed_driftOk (by exact hdrift) _ _ _
      · exact hdrift
  · split
    · exact hdrift
    · next o rest hmail => exact DriftTracker.take_ok hdrift (hsets.offers o (by rw [hmail]; exact List.mem_cons_self ..))
  · split
    · exact hdrift
    · split
      · dsimp only
        split
        · exact State.setDriftBand_ok hdrift _ _ (DriftItem.batch_pos hdrift.1)
        · exact hdrift
      · exact hdrift
  · split
    · exact hdrift
    · split
      · next ln' on _ _ =>
        refine ⟨hdrift.1, fun ln b => ?_⟩
        have hband := State.setFrozen_driftBand s ln' ln on b
        simp only [State.driftBand] at hband
        rw [State.answer_drift, hband]
        exact hdrift.2 ln b
      · exact hdrift

theorem exec_settingsInv (c : Instr) (s t : State) (h : s.SettingsInv) (he : exec c s = .next t) : t.SettingsInv :=
  t.settingsInv_iff.2 ⟨exec_setsOk c s t (s.settingsInv_iff.1 h).1 he, exec_driftOk c s t h he⟩

theorem State.idle_settingsInv (s : State) (h : s.SettingsInv) : s.idle.SettingsInv := by
  rcases s.idle_cases with ⟨-, -, hidle⟩ | hidle
  all_goals rw [hidle]; exact h

/-! ## The statement -/

/-- Settles O57: both invariants are kept by every command and by the idle step, so by every step. -/
theorem stepsKeepTables : Obligations.StepsKeepTables := fun _ _ hstep =>
  ⟨fun h => step_keeps (fun _ _ hs => hs) (fun c s t => exec_settingsInv c s t) State.idle_settingsInv h hstep,
    fun h => step_keeps (fun _ _ hs => hs) (fun c s t => exec_generationInv c s t) State.idle_generationInv h hstep⟩

end Sys2Proof.Machine
end

section
/-! The records every step keeps bounded, in serial order and consistent (R85, R159, R160, R162), from the close of a vehicle to the
release of its record. -/

namespace Sys2Proof.Machine

section
variable {s t : State}

/-! ## The record of a close (R162) -/

/-- A GOOD vehicle has passed the checks on its axles' marks (R118). -/
theorem qualityOf_good {lane : LaneItem} {ctx : Context} {speed : Option Nat} {weighed : List WeighedAxle}
    (h : qualityOf lane ctx speed weighed = .good) :
    ∀ x ∈ ctx.axles, x.axle.rowMark = .both ∧ x.axle.straddle = false ∧ x.axle.singleMark = .clear := by
  have hpassed : ¬ (ctx.axles.map ContextAxle.axle).any (fun a => a.singleMark ≠ .clear) = true ∧
      ¬ (ctx.axles.map ContextAxle.axle).any Axle.straddle = true ∧
      ¬ (ctx.axles.map ContextAxle.axle).any (fun a => a.rowMark ≠ .both) = true := by
    unfold qualityOf at h
    dsimp only at h
    split at h
    · cases h
    split at h
    · cases h
    next hsingle =>
    split at h
    · cases h
    next hstraddle =>
    split at h
    · cases h
    split at h
    · cases h
    split at h
    · cases h
    next hrow => exact ⟨hsingle, hstraddle, hrow⟩
  intro x hx
  simp only [List.any_map, List.any_eq_true, Function.comp_apply, not_exists, not_and, decide_eq_true_eq, not_not,
    Bool.not_eq_true] at hpassed
  exact ⟨hpassed.2.2 x hx, hpassed.2.1 x hx, hpassed.1 x hx⟩

theorem completeRecord_ok (tb : Timebase) (serial : Option Nat) (ln : LaneId) {ctx : Context} (tailgate timeout : Bool)
    (h : 1 ≤ ctx.axles.length ∧ ctx.axles.length ≤ 13) : (completeRecord tb serial ln ctx tailgate timeout).Ok := by
  refine ⟨by rw [completeRecord_loads]; rfl, by rw [completeRecord_spacings]; rfl, ?_, ?_, fun hgood a ha => ?_⟩
  · rw [completeRecord_axles, List.length_map]; exact h.1
  · rw [completeRecord_axles, List.length_map]; exact h.2
  · rw [completeRecord_axles] at ha
    obtain ⟨x, hx, rfl⟩ := List.mem_map.1 ha
    exact qualityOf_good hgood x hx

/-! ## What the records' order speaks of -/

/-- The serials of the records held or on their way, oldest first. -/
def State.serials (s : State) : List Nat := s.records.filterMap VehicleRecord.serial

/-- The serials ascend, each already assigned, below a counter that is in range (R160). -/
structure SerialsOk (store : RecordStore) (serials : List Nat) : Prop where
  ascending : serials.Pairwise (· < ·)
  assigned : ∀ n ∈ serials, store.assigned n
  counter : ∀ c, store.serial = some c → 1 ≤ c ∧ c ≤ Config.serialMax

/-- The invariant of the records by its parts. -/
structure State.RecordsOk (s : State) : Prop where
  room : s.store.held.length ≤ Config.storeCapacity
  numbered : ∀ r ∈ s.store.held, r.serial.isSome = true
  serials : SerialsOk s.store s.serials
  records : ∀ r ∈ s.records, r.Ok
  axles : ∀ ln c, (s.asm ln).context = some c → 1 ≤ c.axles.length ∧ c.axles.length ≤ 13

theorem State.recordInv_iff (s : State) : s.RecordInv ↔ s.RecordsOk := by
  constructor
  · rintro ⟨hroom, hnumbered, hascending, hassigned, hcounter, hrecords, haxles⟩
    exact ⟨hroom, hnumbered, ⟨hascending, hassigned, hcounter⟩, hrecords, haxles⟩
  · rintro ⟨hroom, hnumbered, ⟨hascending, hassigned, hcounter⟩, hrecords, haxles⟩
    exact ⟨hroom, hnumbered, hascending, hassigned, hcounter, hrecords, haxles⟩

theorem SerialsOk.of_counter {st st' : RecordStore} {l : List Nat} (h : SerialsOk st l) (hc : st'.serial = st.serial) :
    SerialsOk st' l :=
  ⟨h.ascending, fun n hn => by rw [RecordStore.assigned, hc]; exact h.assigned n hn, by rw [hc]; exact h.counter⟩

/-- Records may leave. -/
theorem SerialsOk.sublist {st : RecordStore} {l l' : List Nat} (h : SerialsOk st l) (hl : l'.Sublist l) : SerialsOk st l' :=
  ⟨h.ascending.sublist hl, fun n hn => h.assigned n (hl.subset hn), h.counter⟩

/-- A close takes the counter's serial and moves it on (R160). -/
theorem SerialsOk.close {st : RecordStore} {l : List Nat} (h : SerialsOk st l) :
    SerialsOk { st with serial := nextSerial st.serial } (l ++ st.serial.toList) := by
  cases hserial : st.serial with
  | none => exact ⟨by simpa using h.ascending, fun n hn => ⟨(h.assigned n (by simpa using hn)).1,
      (h.assigned n (by simpa using hn)).2.1, fun c hc => by cases hc⟩, fun c hc => by cases hc⟩
  | some c =>
    obtain ⟨hlo, hhi⟩ := h.counter c hserial
    have hbelow : ∀ n ∈ l, n < c := fun n hn => (h.assigned n hn).2.2 c hserial
    have hnext : ∀ c', nextSerial (some c) = some c' → c' = c + 1 ∧ c + 1 ≤ Config.serialMax := fun c' hc' => by
      unfold nextSerial at hc'
      obtain ⟨hlt, heq⟩ := Option.ite_none_left_eq_some.1 hc'
      exact ⟨(Option.some.inj heq).symm, Nat.lt_of_not_le hlt⟩
    refine ⟨?_, fun n hn => ?_, fun c' hc' => ?_⟩
    · rw [List.pairwise_append]
      refine ⟨h.ascending, by simp, fun a ha b hb => ?_⟩
      rw [Option.toList_some, List.mem_singleton] at hb
      exact hb ▸ hbelow a ha
    · rw [List.mem_append, Option.toList_some, List.mem_singleton] at hn
      rcases hn with hn | rfl
      · obtain ⟨hlo', hhi', -⟩ := h.assigned n hn
        refine ⟨hlo', hhi', fun c' hc' => ?_⟩
        have := hbelow n hn
        have := hnext c' hc'
        omega
      · refine ⟨hlo, hhi, fun c' hc' => ?_⟩
        have := hnext c' hc'
        omega
    · have := hnext c' hc'
      omega

/-- The records, the counter and the open vehicles' axle counts are as they were. -/
theorem State.RecordsOk.congr (h : s.RecordsOk) (hheld : t.store.held = s.store.held)
    (hserial : t.store.serial = s.store.serial) (hmail : t.mail.toStore = s.mail.toStore)
    (haxles : ∀ ln c, (t.asm ln).context = some c → 1 ≤ c.axles.length ∧ c.axles.length ≤ 13) : t.RecordsOk := by
  have hrecords : t.records = s.records := by rw [State.records, hheld, hmail]; rfl
  refine ⟨hheld ▸ h.room, hheld ▸ h.numbered, ?_, hrecords ▸ h.records, haxles⟩
  rw [State.serials, hrecords]
  exact h.serials.of_counter hserial

theorem State.RecordsOk.of_asm (h : s.RecordsOk) (hheld : t.store.held = s.store.held)
    (hserial : t.store.serial = s.store.serial) (hmail : t.mail.toStore = s.mail.toStore) (hasm : ∀ ln, t.asm ln = s.asm ln) :
    t.RecordsOk :=
  h.congr hheld hserial hmail fun ln c hc => h.axles ln c (hasm ln ▸ hc)

/-! ## Traffic -/

theorem State.setAsm_recordsOk (h : s.RecordsOk) {ln : LaneId} {a : Assembler}
    (ha : ∀ c, a.context = some c → 1 ≤ c.axles.length ∧ c.axles.length ≤ 13) : (s.setAsm ln a).RecordsOk := by
  refine h.congr rfl rfl rfl fun k c hc => ?_
  by_cases hk : k = ln
  · subst hk; rw [State.asm_setAsm] at hc; exact ha c hc
  · rw [State.asm_setAsm_ne s a hk] at hc; exact h.axles k c hc

theorem joinAxle_length (spacing : Nat) (x : ContextAxle) (l : List ContextAxle) : (joinAxle spacing x l).length = l.length + 1 := by
  induction l with
  | nil => rfl
  | cons p rest ih =>
    cases rest with
    | nil => rfl
    | cons q rest => rw [joinAxle, List.length_cons, ih]; rfl

theorem State.captureLaneOut_store (s : State) (ln : LaneId) :
    (s.captureLaneOut ln).store = s.store ∧ (s.captureLaneOut ln).mail.toStore = s.mail.toStore := by
  unfold State.captureLaneOut State.takeLaneOut
  split
  · exact ⟨rfl, rfl⟩
  · split <;> exact ⟨rfl, rfl⟩

/-- An adoption reaches no record. -/
theorem State.adopt_records (s : State) (ln : LaneId) :
    (s.adopt ln).store = s.store ∧ (s.adopt ln).mail.toStore = s.mail.toStore := by
  cases hg : s.tables.active with
  | none => rw [State.adopt_none hg]; exact ⟨rfl, rfl⟩
  | some g =>
    have hf := State.raiseReported_frame (s.taken g ln).freeRetiring (s.lanes.get ln).reported ln
    have ht : (s.taken g ln).store = s.store ∧ (s.taken g ln).mail.toStore = s.mail.toStore := by
      unfold State.taken
      dsimp only
      split
      · exact State.captureLaneOut_store _ ln
      · exact ⟨rfl, rfl⟩
    rw [State.adopt_eq hg, hf.store, hf.mail, State.freeRetiring_store]
    exact ht

theorem State.adopt_context (s : State) (ln k : LaneId) : ((s.adopt ln).asm k).context = (s.asm k).context := by
  cases hg : s.tables.active with
  | none => rw [State.adopt_none hg]
  | some g =>
    by_cases hk : k = ln
    · subst hk; rw [State.adopt_asm hg]; rfl
    · rw [State.adopt_asm_ne hg hk]

theorem State.adopt_recordsOk (ln : LaneId) (h : s.RecordsOk) : (s.adopt ln).RecordsOk := by
  obtain ⟨hstore, hmail⟩ := s.adopt_records ln
  exact h.congr (by rw [hstore]) (by rw [hstore]) hmail fun k c hc => h.axles k c (s.adopt_context ln k ▸ hc)

theorem State.captureOpen_records (s : State) (ln : LaneId) (time : Tick) :
    (s.captureOpen ln time).store = s.store ∧ (s.captureOpen ln time).mail.toStore = s.mail.toStore := by
  unfold State.captureOpen State.takeOpen
  dsimp only
  split
  · split
    · exact ⟨rfl, rfl⟩
    · split <;> exact ⟨rfl, rfl⟩
  · exact ⟨rfl, rfl⟩

theorem State.close_recordsOk (h : s.RecordsOk) (ln : LaneId) {ctx : Context}
    (hctx : 1 ≤ ctx.axles.length ∧ ctx.axles.length ≤ 13) (tailgate timeout : Bool) :
    (s.close ln ctx tailgate timeout).RecordsOk := by
  have hrecords : (s.close ln ctx tailgate timeout).records =
      s.records ++ [completeRecord s.tb s.store.serial ln ctx tailgate timeout] := (List.append_assoc ..).symm
  have hserials : (s.close ln ctx tailgate timeout).serials = s.serials ++ s.store.serial.toList := by
    rw [State.serials, hrecords, List.filterMap_append]
    have hserial : (completeRecord s.tb s.store.serial ln ctx tailgate timeout).serial = s.store.serial := rfl
    cases hc : s.store.serial <;> simp [State.serials, hc ▸ hserial]
  refine ⟨h.room, h.numbered, ?_, fun r hr => ?_, ?_⟩
  · rw [hserials]
    exact h.serials.close
  · rw [hrecords, List.mem_append, List.mem_singleton] at hr
    rcases hr with hr | rfl
    · exact h.records r hr
    · exact completeRecord_ok _ _ _ _ _ hctx
  · exact (State.setAsm_recordsOk h (ln := ln)
      (a := { s.asm ln with context := none, heldSpeed := heldAfter (s.asm ln).heldSpeed ctx.speed })
      fun c hc => by cases hc).axles

theorem recordsOk_traffic : TrafficKeeps State.RecordsOk where
  reports := fun _ _ h => h.of_asm rfl rfl rfl fun _ => rfl
  setMatcher := fun s ln m h => h.of_asm rfl rfl rfl (s.asm_setMatcher ln · m)
  adoptIfQuiet := fun s ln h => by
    unfold State.adoptIfQuiet
    split
    · exact State.adopt_recordsOk ln h
    · exact h
  openVehicle := fun s ln axle split h => by
    unfold State.openVehicle
    dsimp only
    split
    · exact h
    · obtain ⟨hstore, hmail⟩ := State.captureOpen_records (s.setAsm ln _) ln axle.time
      exact (State.setAsm_recordsOk h (ln := ln) (fun c hc => by cases hc; simp)).of_asm (by rw [hstore]) (by rw [hstore]) hmail
        (State.captureOpen_lanes _ _ _).asm
  close := fun s ln ctx split tailgate timeout hc h => State.close_recordsOk h ln (ctx := { ctx with split := split }) (h.axles ln ctx hc) _ _
  join := fun s ln ctx now spacing x hc hroom h => State.setAsm_recordsOk h fun c hx => by
    cases hx
    dsimp only
    rw [joinAxle_length]
    omega

/-! ## The store's own commands -/

/-- Records leave the held ones or the way to them. -/
theorem State.RecordsOk.remove (h : s.RecordsOk) (hserial : t.store.serial = s.store.serial)
    (hheld : t.store.held.Sublist s.store.held) (hrecords : t.records.Sublist s.records) (hasm : ∀ ln, t.asm ln = s.asm ln) :
    t.RecordsOk where
  room := hheld.length_le.trans h.room
  numbered := fun r hr => h.numbered r (hheld.subset hr)
  serials := (h.serials.sublist (hrecords.filterMap _)).of_counter hserial
  records := fun r hr => h.records r (hrecords.subset hr)
  axles := fun ln c hc => h.axles ln c (hasm ln ▸ hc)

theorem State.readyTest_held (s : State) :
    s.readyTest.store.held = s.store.held ∧ s.readyTest.store.serial = s.store.serial := by
  unfold State.readyTest
  split <;> exact ⟨rfl, rfl⟩

theorem State.takeSite_held (s : State) (site : SiteItem) :
    (s.takeSite site).store.held = s.store.held ∧ (s.takeSite site).store.serial = s.store.serial := by
  unfold State.takeSite RecordStore.rearm
  dsimp only
  split
  · exact State.readyTest_held _
  · split <;> exact ⟨rfl, rfl⟩

theorem execSiteSettingsTake_held (h : execSiteSettingsTake s = .next t) :
    t.store.held = s.store.held ∧ t.store.serial = s.store.serial := by
  injection h with h
  subst h
  split
  · exact ⟨rfl, rfl⟩
  · exact State.takeSite_held _ _

theorem State.readyTest_asm (s : State) (ln : LaneId) : s.readyTest.asm ln = s.asm ln := by rw [State.readyTest_frame]; rfl

theorem execRecordStoreDelivery_recordsOk (h : s.RecordsOk) (he : execRecordStoreDelivery s = .next t) : t.RecordsOk := by
  injection he with he
  subst he
  split
  · exact h
  · next r rest hmail =>
    have hrecords : s.records = s.store.held ++ r :: rest := by rw [State.records, hmail]
    unfold State.storeRecord
    split
    · next hroom =>
      have hjoined : State.RecordsOk { s with
          mail := { s.mail with toStore := rest }, store := { s.store with held := s.store.held ++ [r] } } := by
        have hsame : (s.store.held ++ [r]) ++ rest = s.records := by rw [hrecords, List.append_assoc]; rfl
        refine ⟨?_, fun x hx => ?_, ?_, fun x hx => h.records x (hsame ▸ hx), h.axles⟩
        · rw [List.length_append]; exact hroom.2
        · rw [List.mem_append, List.mem_singleton] at hx
          rcases hx with hx | rfl
          exacts [h.numbered x hx, hroom.1]
        · rw [State.serials, State.records, hsame]
          exact h.serials.of_counter rfl
      exact hjoined.of_asm (State.readyTest_held _).1 (State.readyTest_held _).2 (by rw [State.joinRecord, State.readyTest_mail])
        (State.readyTest_asm _)
    · refine h.remove rfl (List.Sublist.refl _) ?_ fun _ => rfl
      rw [hrecords]
      exact (List.sublist_cons_self r rest).append_left _

@[simp] theorem markCaptured_serial (n : Nat) (r : VehicleRecord) : (markCaptured n r).serial = r.serial := by
  unfold markCaptured
  split <;> rfl

theorem markCaptured_ok (n : Nat) {r : VehicleRecord} (h : r.Ok) : (markCaptured n r).Ok := by
  unfold markCaptured
  split
  · exact h
  · exact h

theorem State.setCaptured_recordsOk (serial : Option Nat) (h : s.RecordsOk) : (s.setCaptured serial).RecordsOk := by
  unfold State.setCaptured
  split
  · exact h
  · next n =>
    have hrecords : s.store.held.map (markCaptured n) ++ s.mail.toStore.map (markCaptured n) = s.records.map (markCaptured n) :=
      List.map_append.symm
    refine ⟨?_, fun r hr => ?_, ?_, fun r hr => ?_, h.axles⟩
    · rw [List.length_map]; exact h.room
    · obtain ⟨r', hr', rfl⟩ := List.mem_map.1 hr
      rw [markCaptured_serial]
      exact h.numbered r' hr'
    · have hsame : (s.records.map (markCaptured n)).filterMap VehicleRecord.serial = s.serials := by
        rw [List.filterMap_map]
        congr 1
        funext r
        exact markCaptured_serial n r
      rw [State.serials, State.records, hrecords, hsame]
      exact h.serials.of_counter rfl
    · rw [State.records, hrecords] at hr
      obtain ⟨r', hr', rfl⟩ := List.mem_map.1 hr
      exact markCaptured_ok n (h.records r' hr')

theorem State.closeTest_recordsOk (r : VehicleRecord) (h : s.RecordsOk) : (s.closeTest r).RecordsOk := by
  unfold State.closeTest
  split
  · split
    · have hheld : State.RecordsOk { s with capture := s.capture.hold r } := h.of_asm rfl rfl rfl fun _ => rfl
      exact (State.setCaptured_recordsOk r.serial hheld).of_asm rfl rfl rfl fun _ => rfl
    · exact h.of_asm rfl rfl rfl fun _ => rfl
  · exact h

theorem execCaptureCloseTest_recordsOk (h : s.RecordsOk) (he : execCaptureCloseTest s = .next t) : t.RecordsOk := by
  injection he with he
  subst he
  split
  · exact h
  · next d rest _ =>
    have htaken : State.RecordsOk { s with mail := { s.mail with toCapture := rest } } := h.of_asm rfl rfl rfl fun _ => rfl
    rw [State.takeWaiting_frame]
    exact (State.closeTest_recordsOk d.record htaken).of_asm rfl rfl rfl fun _ => rfl

theorem execRecordRelease_recordsOk {tag : Byte} {body : List Byte} (h : s.RecordsOk)
    (he : execRecordRelease tag body s = .next t) : t.RecordsOk := by
  injection he with he
  subst he
  split
  · exact h.of_asm rfl rfl rfl fun _ => rfl
  · dsimp only
    split
    · exact h.of_asm rfl rfl rfl fun _ => rfl
    · have hrelease : ∀ n, (s.store.release n).held = s.store.held.filter (fun r => serialFrom (n + 1) r) ∧
          (s.store.release n).serial = s.store.serial := fun n => by
        unfold RecordStore.release RecordStore.rearm
        split <;> exact ⟨rfl, rfl⟩
      obtain ⟨hheld, hserial⟩ := hrelease (leNat body)
      refine h.remove hserial ?_ ?_ fun _ => rfl
      · exact hheld ▸ List.filter_sublist
      · rw [State.records, State.records]
        exact (hheld ▸ List.filter_sublist : (s.store.release (leNat body)).held.Sublist s.store.held).append_right _

theorem State.restartBlocks_context (s : State) (ln : LaneId) : (s.restartBlocks.asm ln).context = none := by
  have hadopts : ∀ (l : List LaneId) (u : State), ((l.foldl State.adopt u).asm ln).context = (u.asm ln).context := by
    intro l
    induction l with
    | nil => intro u; rfl
    | cons k l ih => intro u; rw [List.foldl_cons, ih, State.adopt_context]
  rw [State.restartBlocks_eq, (State.reopenTallies_lanesKept _).asm, (State.freeRetiring_lanesKept _).asm, hadopts,
    State.emptied_asm]

theorem State.restartBlocks_recordsOk (h : s.RecordsOk) : s.restartBlocks.RecordsOk := by
  have hf := s.restartBlocks_frame
  refine h.congr (by rw [hf.store]) (by rw [hf.store]) (by rw [hf.mail]) fun ln c hc => ?_
  rw [State.restartBlocks_context] at hc
  cases hc

theorem State.reset_recordsOk : State.reset.RecordsOk where
  room := Nat.zero_le _
  numbered := fun r hr => by cases hr
  serials := ⟨List.Pairwise.nil, fun n hn => (by cases hn), fun c hc => by cases hc; exact ⟨Nat.le_refl _, by decide⟩⟩
  records := fun r hr => by cases hr
  axles := fun ln c hc => by rw [State.reset_asm] at hc; cases hc

theorem State.commit_recordsOk (h : s.RecordsOk) (set : TableSet) (reset : Bool) : (s.commit set reset).RecordsOk := by
  have hpromoted : (s.promote set reset).RecordsOk := h.of_asm rfl rfl rfl (s.promote_lanesKept set reset).asm
  refine (recordsOk_traffic.settle hpromoted).of_asm ?_ ?_ ?_ (State.freeRetiring_lanesKept _).asm
  all_goals rw [State.commit, State.freeRetiring_store]

end

/-! ## All commands -/

/-- The commands that reach no lane and are none of the store's leave the records and the counter as they were. -/
theorem exec_records (c : Instr) (s t : State) (hc : reachesLanes c = false) (h : exec c s = .next t) :
    (t.store.held = s.store.held ∧ t.store.serial = s.store.serial ∧ t.mail.toStore = s.mail.toStore) ∨
      c = .recordStoreDelivery ∨ c = .captureCloseTest ∨ ∃ tag body, c = .recordRelease tag body := by
  have same : t.store = s.store → t.mail.toStore = s.mail.toStore →
      (t.store.held = s.store.held ∧ t.store.serial = s.store.serial ∧ t.mail.toStore = s.mail.toStore) ∨
        c = .recordStoreDelivery ∨ c = .captureCloseTest ∨ ∃ tag body, c = .recordRelease tag body :=
    fun hstore hmail => .inl ⟨by rw [hstore], by rw [hstore], hmail⟩
  cases c
  case powerOn => cases hc
  case channelSample => cases hc
  case refEdge => cases hc
  case timebaseSilence => cases hc
  case freeRunningBoundary => cases hc
  case pulseReport => cases hc
  case holdExpiry => cases hc
  case pendingExpiry => cases hc
  case deliveryMarkLapse => cases hc
  case presenceSample => cases hc
  case gapWithLoop => cases hc
  case gapWithoutLoop => cases hc
  case timeout => cases hc
  case restart => cases hc
  case stageCommit => cases hc
  case recordStoreDelivery => simp
  case captureCloseTest => simp
  case recordRelease => simp
  case status =>
    injection h with h
    subst h
    left
    split <;> exact ⟨rfl, rfl, rfl⟩
  case siteSettingsTake =>
    have hkept := execSiteSettingsTake_held h
    exact .inl ⟨hkept.1, hkept.2, by rw [execSiteSettingsTake_mail h]⟩
  case pulseOverlong => exact same (execPulseOverlong_channel h).store (by rw [(execPulseOverlong_channel h).mail])
  case channelSettingsWaiting =>
    exact same (execChannelSettingsWaiting_channel h).store (by rw [(execChannelSettingsWaiting_channel h).mail])
  case channelSupervision =>
    exact same (execChannelSupervision_channel h).store (by rw [(execChannelSupervision_channel h).mail])
  case channelRestore => exact same (execChannelRestore_channel h).store (by rw [(execChannelRestore_channel h).mail])
  case gateEnd => exact same (execGateEnd_frame h).store (by rw [(execGateEnd_frame h).mail])
  case probeSettingsTake => exact same (execProbeSettingsTake_frame h).store (by rw [(execProbeSettingsTake_frame h).mail])
  case probeRestore => exact same (execProbeRestore_frame h).store (by rw [(execProbeRestore_frame h).mail])
  case probeEdge => exact same (execProbeEdge_frame h).store (by rw [(execProbeEdge_frame h).mail])
  case tallyRecord => exact same (by rw [execTallyRecord_frame h]) (by rw [execTallyRecord_mail h])
  case tallyDrop => exact same (by rw [execTallyDrop_frame h]) (by rw [execTallyDrop_mail h])
  case driftFeed => exact same (by rw [execDriftFeed_frame h]) (by rw [execDriftFeed_mail h])
  case driftPolicyTake => exact same (by rw [execDriftPolicyTake_frame h]) (by rw [execDriftPolicyTake_mail h])
  case captureWrite => exact same (by rw [execCaptureWrite_frame h]) (by rw [execCaptureWrite_frame h])
  case inboundByte => exact same (by rw [execInboundByte_frame h]) (by rw [execInboundByte_frame h])
  case frameGapExpiry => exact same (by rw [execFrameGapExpiry_frame h]) (by rw [execFrameGapExpiry_frame h])
  case transmitEnd => exact same (by rw [execTransmitEnd_frame h]) (by rw [execTransmitEnd_frame h])
  case unknownRequest => exact same (by rw [execUnknownRequest_frame h]) (by rw [execUnknownRequest_frame h])
  case liveRead => exact same (by rw [execLiveRead_frame h]) (by rw [execLiveRead_frame h])
  case timeSet => exact same (by rw [execTimeSet_frame h]) (by rw [execTimeSet_frame h])
  case stageOpen => exact same (by rw [execStageOpen_frame h]) (by rw [execStageOpen_frame h])
  case stagePut => exact same (by rw [execStagePut_frame h]) (by rw [execStagePut_frame h])
  case stageDiscard => exact same (by rw [execStageDiscard_frame h]) (by rw [execStageDiscard_frame h])
  case tableRead => exact same (by rw [execTableRead_frame h]) (by rw [execTableRead_frame h])
  case driftGet => exact same (by rw [execDriftGet_frame h]) (by rw [execDriftGet_frame h])
  case driftSet => exact same (by rw [execDriftSet_frame h]) (by rw [execDriftSet_frame h])
  case driftFreeze => exact same (by rw [execDriftFreeze_frame h]) (by rw [execDriftFreeze_frame h])
  case recordFetch => exact same (by rw [execRecordFetch_frame h]) (by rw [execRecordFetch_frame h])
  case tallyFetch => exact same (by rw [execTallyFetch_frame h]) (by rw [execTallyFetch_frame h])
  case tallyRelease => exact same (by rw [execTallyRelease_frame h]) (by rw [execTallyRelease_frame h])
  case captureArm => exact same (by rw [execCaptureArm_frame h]) (by rw [execCaptureArm_frame h])
  case captureFetch => exact same (by rw [execCaptureFetch_frame h]) (by rw [execCaptureFetch_frame h])
  case captureRelease => exact same (by rw [execCaptureRelease_frame h]) (by rw [execCaptureRelease_frame h])

theorem exec_recordsOk (c : Instr) (s t : State) (h : s.RecordsOk) (he : exec c s = .next t) : t.RecordsOk := by
  by_cases hreach : reachesLanes c = false
  · rcases exec_records c s t hreach he with ⟨hheld, hserial, hmail⟩ | rfl | rfl | ⟨tag, body, rfl⟩
    · exact h.of_asm hheld hserial hmail (exec_lanesKept c s t hreach he).asm
    · exact execRecordStoreDelivery_recordsOk h he
    · exact execCaptureCloseTest_recordsOk h he
    · exact execRecordRelease_recordsOk h he
  cases c
  case powerOn rate1 rate0 =>
    injection he with he
    subst he
    exact State.reset_recordsOk.of_asm rfl rfl rfl fun _ => rfl
  case channelSample =>
    have hf := execChannelSample_channel he
    exact h.of_asm (by rw [hf.store]) (by rw [hf.store]) (by rw [hf.mail]) hf.asm
  case refEdge =>
    have hf := execRefEdge_clock he
    exact h.of_asm (by rw [hf.store]) (by rw [hf.store]) (by rw [hf.mail]) hf.asm
  case timebaseSilence =>
    have hf := execTimebaseSilence_clock he
    exact h.of_asm (by rw [hf.store]) (by rw [hf.store]) (by rw [hf.mail]) hf.asm
  case freeRunningBoundary =>
    have hf := execFreeRunningBoundary_clock he
    exact h.of_asm (by rw [hf.store]) (by rw [hf.store]) (by rw [hf.mail]) hf.asm
  case pulseReport => exact recordsOk_traffic.execPulseReport h he
  case holdExpiry => exact recordsOk_traffic.execHoldExpiry h he
  case pendingExpiry => exact recordsOk_traffic.execPendingExpiry h he
  case deliveryMarkLapse => exact recordsOk_traffic.execDeliveryMarkLapse h he
  case gapWithLoop => exact recordsOk_traffic.execGapWithLoop h he
  case gapWithoutLoop => exact recordsOk_traffic.execGapWithoutLoop h he
  case timeout => exact recordsOk_traffic.execTimeout h he
  case presenceSample ln level =>
    injection he with he
    subst he
    refine State.setAsm_recordsOk h fun c hc => ?_
    obtain ⟨c', hc', heq⟩ := (s.asm ln).samplePresence_context level c hc
    rw [heq]
    exact h.axles ln c' hc'
  case restart =>
    rcases execRestart_cases he with ⟨-, rfl⟩ | ⟨-, rfl⟩
    · exact h.of_asm rfl rfl rfl fun _ => rfl
    · exact (State.restartBlocks_recordsOk h).of_asm (by rw [State.raise_store, State.answer_store])
        (by rw [State.raise_store, State.answer_store]) (by rw [State.raise_mail, State.answer_mail])
        ((State.answer_lanesKept _ _ _ _ _).trans (State.raise_lanesKept _ _)).asm
  case stageCommit =>
    rcases execStageCommit_cases he with ⟨reply, rfl⟩ | ⟨x, reset, reply, -, -, -, -, rfl⟩
    · exact h.of_asm rfl rfl rfl fun _ => rfl
    · exact (State.commit_recordsOk h x.set reset).of_asm (by rw [State.answer_store]) (by rw [State.answer_store])
        (by rw [State.answer_mail]) (State.answer_lanesKept _ _ _ _ _).asm
  all_goals exact absurd rfl hreach

theorem exec_recordInv (c : Instr) (s t : State) (h : s.RecordInv) (he : exec c s = .next t) : t.RecordInv :=
  t.recordInv_iff.2 (exec_recordsOk c s t (s.recordInv_iff.1 h) he)

theorem State.idle_recordInv (s : State) (h : s.RecordInv) : s.idle.RecordInv := by
  rcases s.idle_cases with ⟨-, -, hidle⟩ | hidle
  all_goals rw [hidle]; exact h

end Sys2Proof.Machine
end

section
/-! The tallies keep their lists at their lengths, and at most four closed ones wait to be fetched (R166, R169). -/

namespace Sys2Proof.Machine

section
variable {s t : State}

/-- The Tally Unit's part of `State.TallyInv`. -/
structure TallyUnit.Ok (u : TallyUnit) : Prop where
  room : u.queue.length ≤ 4
  active : ∀ ln, (u.active.get ln).Sized
  closed : ∀ e ∈ u.queue, ∀ ln, (e.lanes.get ln).Sized

theorem State.tallyInv_iff : s.TallyInv ↔ s.tally.Ok :=
  ⟨fun ⟨room, active, closed⟩ => ⟨room, active, closed⟩, fun h => ⟨h.room, h.active, h.closed⟩⟩

theorem TallyUnit.start_ok : TallyUnit.start.Ok where
  room := Nat.zero_le _
  active := fun ln => by rw [TallyUnit.start, Four.get_fill]; exact Tally.opened_sized _
  closed := fun e he => by cases he

/-! ## The operations on the active tallies -/

theorem TallyUnit.Ok.setActive {u : TallyUnit} (h : u.Ok) {active : Four Tally} (ha : ∀ ln, (active.get ln).Sized)
    (openedAt : Seconds) (extension interval : Nat) :
    TallyUnit.Ok { u with active := active, openedAt := openedAt, extension := extension, interval := interval } :=
  ⟨h.room, ha, h.closed⟩

theorem State.setTally_tallyOk (h : s.tally.Ok) {ln : LaneId} {x : Tally} (hx : x.Sized) : (s.setTally ln x).tally.Ok :=
  h.setActive (fun k => by
    rw [Four.get_set]
    split
    · exact hx
    · exact h.active k) _ _ _

theorem State.reopenTallies_tallyOk (h : s.tally.Ok) : s.reopenTallies.tally.Ok := by
  rw [State.reopenTallies_tally]
  exact h.setActive (fun ln => by rw [Four.get_fill]; exact Tally.opened_sized _) _ _ _

theorem State.examineInterval_tallyOk (h : s.tally.Ok) : s.examineInterval.tally.Ok := by
  unfold State.examineInterval
  split
  · split
    · next hroom =>
      refine State.reopenTallies_tallyOk ⟨?_, h.active, fun e he => ?_⟩
      · rw [List.length_append]; exact hroom
      · rw [List.mem_append, List.mem_singleton] at he
        rcases he with he | rfl
        exacts [h.closed e he, h.active]
    · exact ⟨h.room, h.active, h.closed⟩
  · exact h

theorem State.sampleEvent_tallyOk (h : s.tally.Ok) (ch : ChannelId) (e : SampleEvent) : (s.sampleEvent ch e).tally.Ok := by
  cases e with
  | nothing => exact h
  | spike => exact State.setTally_tallyOk h (h.active ch.lane)
  | accepted r =>
    unfold State.sampleEvent State.sendReport
    dsimp only
    split <;> exact h

theorem State.takeOverlong_tally (s : State) (ch : ChannelId) : (s.takeOverlong ch).tally = s.tally := by
  unfold State.takeOverlong
  dsimp only
  split
  · rfl
  · exact (s.putUnit_frame ch _).tally

theorem State.takeSample_tallyOk (h : s.tally.Ok) (ch : ChannelId) (x : Code) : (s.takeSample ch x).tally.Ok := by
  unfold State.takeSample
  dsimp only
  split
  · exact h
  · split
    · rw [(State.putUnit_frame _ _ _).tally]
      exact State.sampleEvent_tallyOk h ch _
    · exact h

theorem State.supervise_tally (s : State) (v : Supervision) : (s.supervise v).tally = s.tally := by
  unfold State.supervise
  split
  · exact ((((s.putUnit_frame _ _).trans (State.putUnit_frame _ _ _)).trans (State.putUnit_frame _ _ _)).trans
      (State.putUnit_frame _ _ _)).tally
  · rfl

/-! ## The edges of the reference pulse -/

theorem State.realign_tallyOk (h : s.tally.Ok) : s.realign.tally.Ok := by
  unfold State.realign
  dsimp only
  split
  · exact h
  · exact State.examineInterval_tallyOk h

theorem State.searchEdge_tallyOk (h : s.tally.Ok) (n : Nat) : (s.searchEdge n).tally.Ok := by
  unfold State.searchEdge
  split
  · split
    · rw [State.lockOn, State.enterLock_tally, State.setNRef_tally]
      exact State.realign_tallyOk h
    · exact h
  · exact h

theorem State.judgeEdge_tallyOk (h : s.tally.Ok) (n : Nat) : (s.judgeEdge n).tally.Ok := by
  unfold State.judgeEdge
  split
  · exact State.searchEdge_tallyOk h n
  · exact State.searchEdge_tallyOk h n
  · split
    · show (s.realign.setNRef n).tally.Ok
      rw [State.setNRef_tally]
      exact State.realign_tallyOk h
    · unfold State.rejectEdge
      dsimp only
      split <;> exact h

theorem State.registerEdge_tallyOk (h : s.tally.Ok) : s.registerEdge.tally.Ok := by
  unfold State.registerEdge
  split
  · exact h
  · exact State.judgeEdge_tallyOk (s := s.noteEdge _) h _

/-! ## A change of the weighing temperature (R168) -/

theorem State.reselect_tallyOk (h : s.tally.Ok) : s.reselect.tally.Ok := by
  unfold State.reselect
  dsimp only
  split
  · exact h
  · exact h.setActive (fun ln => by rw [Four.get_map]; exact Tally.seeTw_sized _ _ (h.active ln)) _ _ _

theorem State.putProbe_tally (s : State) (p : ProbeId) (x : Probe) : (s.putProbe p x).tally = s.tally := by
  unfold State.putProbe
  dsimp only
  split <;> rfl

theorem State.gateAfterTake_tally (s : State) : s.gateAfterTake.tally = s.tally := by
  unfold State.gateAfterTake
  split
  · rfl
  · split <;> rfl

/-! ## All commands -/

theorem exec_tallyOk (c : Instr) (s t : State) (h : s.tally.Ok) (he : exec c s = .next t) : t.tally.Ok := by
  have same : t.tally = s.tally → t.tally.Ok := fun e => e ▸ h
  cases c
  case powerOn =>
    injection he with he
    subst he
    exact TallyUnit.start_ok
  case channelSample ch x =>
    injection he with he
    subst he
    refine State.takeSample_tallyOk ?_ ch x
    split
    · rwa [State.takeOverlong_tally]
    · exact h
  case pulseOverlong ch =>
    injection he with he
    subst he
    split
    · rwa [State.takeOverlong_tally]
    · exact h
  case channelSettingsWaiting ch =>
    injection he with he
    subst he
    split
    · rwa [(s.putUnit_frame ch _).tally]
    · exact h
  case channelSupervision =>
    injection he with he
    subst he
    split
    · exact h
    · rwa [State.supervise_tally]
  case refEdge =>
    injection he with he
    subst he
    split
    · exact State.registerEdge_tallyOk (s := { s with tb := { s.tb with refHigh := _ } }) h
    · exact h
  case timebaseSilence =>
    injection he with he
    subst he
    split <;> exact h
  case freeRunningBoundary =>
    injection he with he
    subst he
    split
    · exact State.examineInterval_tallyOk h
    · exact h
  case gateEnd =>
    injection he with he
    subst he
    split
    · exact h
    · next g _ =>
      unfold State.endGate
      dsimp only
      rw [State.startGate_tally]
      exact State.reselect_tallyOk (by rwa [State.putProbe_tally])
  case probeSettingsTake =>
    injection he with he
    subst he
    split
    · exact h
    · unfold State.takeProbeSettings
      dsimp only
      rw [State.gateAfterTake_tally]
      refine State.reselect_tallyOk ?_
      simp only [fours, List.foldl_cons, List.foldl_nil, State.putProbe_tally]
      exact h
  case probeRestore tag body =>
    injection he with he
    subst he
    split
    · exact h
    · split
      · exact h
      · rw [State.answer_tally]
        split
        · exact State.reselect_tallyOk (by rwa [State.putProbe_tally])
        · exact h
  case tallyRecord =>
    injection he with he
    subst he
    split
    · exact h
    · next r rest _ =>
      exact State.setTally_tallyOk (s := { s with mail := { s.mail with toTally := rest } }) h
        (Tally.record_sized _ r (h.active r.lane))
  case tallyDrop =>
    injection he with he
    subst he
    split
    · exact h
    · next ln rest _ => exact State.setTally_tallyOk (s := { s with mail := { s.mail with drops := rest } }) h (h.active ln)
  case siteSettingsTake =>
    injection he with he
    subst he
    split
    · exact h
    · rw [State.takeSite_frame]
      exact ⟨h.room, h.active, h.closed⟩
  case tallyRelease tag body =>
    injection he with he
    subst he
    split
    · exact h
    · split
      · exact h
      · next e rest hqueue =>
        have hroom := h.room
        rw [hqueue, List.length_cons] at hroom
        exact ⟨by show rest.length ≤ 4; omega, h.active, fun e' he' => h.closed e' (hqueue ▸ List.mem_cons_of_mem e he')⟩
  case restart =>
    rcases execRestart_cases he with ⟨-, rfl⟩ | ⟨-, rfl⟩
    · exact h
    · rw [State.raise_tally, State.answer_tally, s.restartBlocks_frame.tally]
      exact h.setActive (fun ln => by rw [Four.get_fill]; exact Tally.opened_sized _) _ _ _
  case stageCommit =>
    rcases execStageCommit_cases he with ⟨reply, rfl⟩ | ⟨x, reset, reply, -, -, -, -, rfl⟩
    · exact h
    · rw [State.answer_tally, (State.commit_frame s _ _).tally]
      exact h
  case channelRestore tag body =>
    injection he with he
    subst he
    split
    · exact h
    · split
      · exact h
      · rw [State.answer_tally]
        split
        · rwa [(State.putUnit_frame _ _ _).tally]
        · exact h
  case pulseReport => exact same (execPulseReport_frame he).tally
  case holdExpiry => exact same (execHoldExpiry_frame he).tally
  case pendingExpiry => exact same (execPendingExpiry_frame he).tally
  case deliveryMarkLapse => exact same (execDeliveryMarkLapse_frame he).tally
  case presenceSample => exact same (execPresenceSample_frame he).tally
  case gapWithLoop => exact same (execGapWithLoop_frame he).tally
  case gapWithoutLoop => exact same (execGapWithoutLoop_frame he).tally
  case timeout => exact same (execTimeout_frame he).tally
  case probeEdge =>
    injection he with he
    subst he
    exact h
  case recordStoreDelivery => exact same (by rw [execRecordStoreDelivery_frame he])
  case driftFeed => exact same (by rw [execDriftFeed_frame he])
  case captureCloseTest => exact same (by rw [execCaptureCloseTest_frame he])
  case captureWrite => exact same (by rw [execCaptureWrite_frame he])
  case driftPolicyTake => exact same (by rw [execDriftPolicyTake_frame he])
  case inboundByte => exact same (by rw [execInboundByte_frame he])
  case frameGapExpiry => exact same (by rw [execFrameGapExpiry_frame he])
  case transmitEnd => exact same (by rw [execTransmitEnd_frame he])
  case unknownRequest => exact same (by rw [execUnknownRequest_frame he])
  case status =>
    injection he with he
    subst he
    split <;> exact h
  case liveRead => exact same (by rw [execLiveRead_frame he])
  case timeSet => exact same (by rw [execTimeSet_frame he])
  case stageOpen => exact same (by rw [execStageOpen_frame he])
  case stagePut => exact same (by rw [execStagePut_frame he])
  case stageDiscard => exact same (by rw [execStageDiscard_frame he])
  case tableRead => exact same (by rw [execTableRead_frame he])
  case driftGet => exact same (by rw [execDriftGet_frame he])
  case driftSet => exact same (by rw [execDriftSet_frame he])
  case driftFreeze => exact same (by rw [execDriftFreeze_frame he])
  case recordFetch => exact same (by rw [execRecordFetch_frame he])
  case recordRelease => exact same (by rw [execRecordRelease_frame he])
  case tallyFetch => exact same (by rw [execTallyFetch_frame he])
  case captureArm => exact same (by rw [execCaptureArm_frame he])
  case captureFetch => exact same (by rw [execCaptureFetch_frame he])
  case captureRelease => exact same (by rw [execCaptureRelease_frame he])

theorem exec_tallyInv (c : Instr) (s t : State) (h : s.TallyInv) (he : exec c s = .next t) : t.TallyInv :=
  State.tallyInv_iff.2 (exec_tallyOk c s t (State.tallyInv_iff.1 h) he)

theorem State.idle_tallyInv (s : State) (h : s.TallyInv) : s.idle.TallyInv := by
  rcases s.idle_cases with ⟨-, -, hidle⟩ | hidle
  all_goals rw [hidle]; exact h

end

/-- Settles O58: the records by `exec_recordInv`, the tallies by `exec_tallyInv`, command by command. -/
theorem stepsKeepRecords : Obligations.StepsKeepRecords := fun _ _ hstep =>
  ⟨fun h => step_keeps (fun _ _ hs => hs) exec_recordInv State.idle_recordInv h hstep,
    fun h => step_keeps (fun _ _ hs => hs) exec_tallyInv State.idle_tallyInv h hstep⟩

end Sys2Proof.Machine
end

section
/-! The link keeps its queue, its overrun slot and its pending notices in order (R181, R182). -/

namespace Sys2Proof.Machine

section
variable {s t : State} {l : Link}

/-! ## Notices by kind -/

theorem Notice.sameKind_iff (m n : Notice) : m.sameKind n = true ↔ m.kind = n.kind := by
  cases m <;> cases n <;> simp [Notice.sameKind, Notice.kind]

theorem Notice.merge_kind {m n : Notice} (h : m.kind = n.kind) : (m.merge n).kind = m.kind := by
  cases m <;> cases n <;> simp_all [Notice.merge, Notice.kind]

theorem OutFrame.differ_notices (m n : Notice) :
    OutFrame.differ (.notice m) (.notice n) = true ↔ m.kind ≠ n.kind := by
  rw [ne_eq, ← Notice.sameKind_iff]
  simp [OutFrame.differ]

theorem OutFrame.differ_reply_left (r : Reply) (f : OutFrame) : OutFrame.differ (.reply r) f = true := by cases f <;> rfl

theorem OutFrame.differ_reply_right (f : OutFrame) (r : Reply) : OutFrame.differ f (.reply r) = true := by cases f <;> rfl

/-! ## A raise among the waiting frames (R182) -/

/-- What a raise adds to the frames that wait is a notice of its own kind. -/
theorem mem_raiseIn {fs : List OutFrame} {n : Notice} {f : OutFrame} (h : f ∈ raiseIn fs n) :
    f ∈ fs ∨ ∃ k : Notice, f = .notice k ∧ k.kind = n.kind := by
  induction fs with
  | nil => exact .inr ⟨n, List.mem_singleton.1 h, rfl⟩
  | cons g fs ih =>
    cases g with
    | reply r =>
      rcases List.mem_cons.1 h with rfl | h
      · exact .inl (List.mem_cons_self ..)
      · exact (ih h).imp_left (List.mem_cons_of_mem _)
    | notice m =>
      unfold raiseIn at h
      split at h
      · next hsame =>
        have hkind := (Notice.sameKind_iff m n).1 hsame
        rcases List.mem_cons.1 h with rfl | h
        · exact .inr ⟨_, rfl, (Notice.merge_kind hkind).trans hkind⟩
        · exact .inl (List.mem_cons_of_mem _ h)
      · rcases List.mem_cons.1 h with rfl | h
        · exact .inl (List.mem_cons_self ..)
        · exact (ih h).imp_left (List.mem_cons_of_mem _)

theorem raiseIn_differ {fs : List OutFrame} (n : Notice) (h : fs.Pairwise fun a b => a.differ b = true) :
    (raiseIn fs n).Pairwise fun a b => a.differ b = true := by
  induction fs with
  | nil => exact List.pairwise_singleton _ _
  | cons g fs ih =>
    obtain ⟨hg, hfs⟩ := List.pairwise_cons.1 h
    cases g with
    | reply r => exact List.pairwise_cons.2 ⟨fun f _ => OutFrame.differ_reply_left r f, ih hfs⟩
    | notice m =>
      unfold raiseIn
      split
      · next hsame =>
        refine List.pairwise_cons.2 ⟨fun f hf => ?_, hfs⟩
        have hm := hg f hf
        cases f with
        | reply r => exact OutFrame.differ_reply_right _ r
        | notice k =>
          rw [OutFrame.differ_notices] at hm ⊢
          rwa [Notice.merge_kind ((Notice.sameKind_iff m n).1 hsame)]
      · next hsame =>
        refine List.pairwise_cons.2 ⟨fun f hf => ?_, ih hfs⟩
        rcases mem_raiseIn hf with hf | ⟨k, rfl, hk⟩
        · exact hg f hf
        · rw [OutFrame.differ_notices, hk]
          exact fun hkind => hsame ((Notice.sameKind_iff m n).2 hkind)

theorem raiseIn_overruns (fs : List OutFrame) (n : Notice) :
    (raiseIn fs n).filterMap OutFrame.overrunOf = fs.filterMap OutFrame.overrunOf := by
  induction fs with
  | nil => rfl
  | cons g fs ih =>
    cases g with
    | reply r => simp only [raiseIn, List.filterMap_cons, ih]
    | notice m =>
      unfold raiseIn
      split
      · rfl
      · simp only [List.filterMap_cons, ih]

/-! ## Serving a request and the end of its reply (R181) -/

/-- Served requests stand before unserved ones. -/
def ServedFirst (requests : List Request) : Prop := requests.Pairwise fun a b => b.served = true → a.served = true

theorem serveFirst_servedFirst {requests : List Request} (kind tag : Byte) (body : List Byte) (h : ServedFirst requests) :
    ServedFirst (serveFirst kind tag body requests).1 := by
  induction requests with
  | nil => exact h
  | cons r rs ih =>
    obtain ⟨hr, hrs⟩ := List.pairwise_cons.1 h
    unfold serveFirst
    split
    · next hserved => exact List.pairwise_cons.2 ⟨fun _ _ _ => hserved, ih hrs⟩
    · split
      · exact List.pairwise_cons.2 ⟨fun _ _ _ => rfl, hrs⟩
      · exact h

theorem serveFirst_count (kind tag : Byte) (body : List Byte) (requests : List Request) :
    (serveFirst kind tag body requests).1.countP Request.served =
      requests.countP Request.served + if (serveFirst kind tag body requests).2 then 1 else 0 := by
  induction requests with
  | nil => rfl
  | cons r rs ih =>
    unfold serveFirst
    split
    · next hserved => simp only [List.countP_cons, hserved, ih]; omega
    · next hserved =>
      split
      · simp [hserved]
      · simp

theorem dropServed_sublist (requests : List Request) : (dropServed requests).Sublist requests := by
  induction requests with
  | nil => exact List.Sublist.refl _
  | cons r rs ih =>
    unfold dropServed
    split
    · exact List.sublist_cons_self r rs
    · exact ih.cons_cons r

theorem dropServed_count (requests : List Request) :
    (dropServed requests).countP Request.served = requests.countP Request.served - 1 := by
  induction requests with
  | nil => rfl
  | cons r rs ih =>
    unfold dropServed
    split
    · next hserved => simp [hserved]
    · next hserved => simp [hserved, ih]

/-! ## The link in order -/

/-- The link's part of `State.LinkInv`. -/
structure Link.Ok (l : Link) : Prop where
  room : l.requests.length ≤ Config.requestCapacity
  order : ServedFirst l.requests
  places : l.requests.countP Request.served = l.unsent.countP OutFrame.holdsPlace
  slot : l.outgoing.filterMap OutFrame.overrunOf = l.overrunSlot.toList
  notices : l.outgoing.Pairwise fun a b => a.differ b = true

theorem State.linkInv_iff : s.LinkInv ↔ s.link.Ok :=
  ⟨fun ⟨room, order, places, slot, notices⟩ => ⟨room, order, places, slot, notices⟩,
    fun h => ⟨h.room, h.order, h.places, h.slot, h.notices⟩⟩

theorem Link.unsent_count (l : Link) :
    l.unsent.countP OutFrame.holdsPlace = l.sending.toList.countP OutFrame.holdsPlace + l.outgoing.countP OutFrame.holdsPlace :=
  List.countP_append

/-- A reply joins the waiting frames after them all. -/
theorem outgoing_reply_differ {fs : List OutFrame} (r : Reply) (h : fs.Pairwise fun a b => a.differ b = true) :
    (fs ++ [OutFrame.reply r]).Pairwise fun a b => a.differ b = true := by
  refine List.pairwise_append.2 ⟨h, List.pairwise_singleton _ _, fun f _ g hg => ?_⟩
  rw [List.mem_singleton.1 hg]
  exact OutFrame.differ_reply_right f r

theorem Link.start_ok (rate : LineRate) : (Link.start rate).Ok where
  room := Nat.zero_le _
  order := List.Pairwise.nil
  places := rfl
  slot := rfl
  notices := List.pairwise_singleton _ _

theorem Link.Ok.raised (h : l.Ok) (n : Notice) : (l.raised n).Ok where
  room := h.room
  order := h.order
  places := by
    have hplaces := h.places
    rw [Link.unsent_count] at hplaces ⊢
    rwa [Link.raised, raiseIn_holdsPlace]
  slot := (raiseIn_overruns _ n).trans h.slot
  notices := raiseIn_differ n h.notices

theorem State.raise_linkOk (h : s.link.Ok) (n : Notice) : (s.raise n).link.Ok := h.raised n

theorem State.answer_linkOk (h : s.link.Ok) (kind tag : Byte) (body reply : List Byte) :
    (s.answer kind tag body reply).link.Ok := by
  have hcount := serveFirst_count kind tag body s.link.requests
  have hplaces := h.places
  rw [Link.unsent_count] at hplaces
  refine ⟨?_, serveFirst_servedFirst kind tag body h.order, ?_, ?_, outgoing_reply_differ _ h.notices⟩
  · show (serveFirst kind tag body s.link.requests).1.length ≤ _
    rw [serveFirst_length]
    exact h.room
  · rw [Link.unsent_count]
    show (serveFirst kind tag body s.link.requests).1.countP Request.served =
      s.link.sending.toList.countP OutFrame.holdsPlace + (s.link.outgoing ++ [_]).countP OutFrame.holdsPlace
    rw [hcount, hplaces, List.countP_append, List.countP_singleton]
    cases (serveFirst kind tag body s.link.requests).2 <;> simp [OutFrame.holdsPlace, Nat.add_assoc]
  · show (s.link.outgoing ++ [_]).filterMap OutFrame.overrunOf = _
    rw [List.filterMap_append, h.slot]
    cases (serveFirst kind tag body s.link.requests).2 <;> simp [OutFrame.overrunOf, State.answer]

/-! ## Receiving (R180, R181) -/

/-- The receiver's own fields play no part. -/
theorem Link.Ok.receiver (h : l.Ok) (rx : Receiver) (lastByte : Tick) (badFrames overruns : Nat) :
    Link.Ok { l with rx := rx, lastByte := lastByte, badFrames := badFrames, overruns := overruns } :=
  ⟨h.room, h.order, h.places, h.slot, h.notices⟩

theorem Link.Ok.goodRequest (h : l.Ok) (kind tag : Byte) (body : List Byte) : (l.goodRequest kind tag body).Ok := by
  unfold Link.goodRequest
  split
  · next hroom =>
    refine ⟨?_, ?_, ?_, h.slot, h.notices⟩
    · rw [List.length_append]; exact hroom
    · refine List.pairwise_append.2 ⟨h.order, List.pairwise_singleton _ _, fun a _ b hb hserved => ?_⟩
      rw [List.mem_singleton.1 hb] at hserved
      cases hserved
    · rw [List.countP_append]
      exact h.places
  · split
    · next hslot =>
      refine ⟨h.room, h.order, ?_, ?_, outgoing_reply_differ _ h.notices⟩
      · rw [h.places, Link.unsent_count, Link.unsent_count, List.countP_append]
        rfl
      · rw [List.filterMap_append, h.slot, Option.isNone_iff_eq_none.1 hslot]
        rfl
    · exact h.receiver _ _ _ _

theorem Link.Ok.judgeFrame (h : l.Ok) (header : FrameHeader) (body crc : List Byte) : (l.judgeFrame header body crc).Ok := by
  unfold Link.judgeFrame
  split
  · exact (h.receiver _ _ _ _).goodRequest _ _ _
  · exact h.receiver _ _ _ _

theorem Link.Ok.takeHeader (h : l.Ok) (header : FrameHeader) : (l.takeHeader header).Ok := by
  unfold Link.takeHeader
  split
  · exact h.receiver _ _ _ _
  · split <;> exact h.receiver _ _ _ _

theorem Link.Ok.takeByte (h : l.Ok) (byte : Byte) (fault : Bool) : (l.takeByte byte fault).Ok := by
  have discarded : l.discardFrame.Ok := h.receiver _ _ _ _
  unfold Link.takeByte
  split
  · split
    · split
      · exact discarded
      · exact h.receiver _ _ _ _
    · exact h
  · split
    · exact discarded
    · split
      · exact h.receiver _ _ _ _
      · exact h.takeHeader _
  · split
    · exact discarded
    · split <;> exact h.receiver _ _ _ _
  · split
    · exact discarded
    · exact h.receiver _ _ _ _
  · split
    · exact discarded
    · exact h.judgeFrame _ _ _

/-! ## Sending (R182) -/

theorem Link.Ok.beginNext (h : l.Ok) (hidle : l.sending = none) : l.beginNext.Ok := by
  unfold Link.beginNext
  split
  · exact h
  · next f rest hout =>
    have hplaces := h.places
    have hslot := h.slot
    have hnotices := h.notices
    rw [Link.unsent, hidle, hout] at hplaces
    rw [hout] at hslot hnotices
    refine ⟨h.room, h.order, hplaces, ?_, (List.pairwise_cons.1 hnotices).2⟩
    show rest.filterMap OutFrame.overrunOf = (slotAfterBegin l.overrunSlot f).toList
    cases f with
    | notice n => exact hslot
    | reply r =>
      rw [List.filterMap_cons, OutFrame.overrunOf] at hslot
      by_cases hsource : r.source = .overrun
      · rw [if_pos hsource] at hslot
        rw [slotAfterBegin, if_pos hsource]
        cases hs : l.overrunSlot with
        | none => rw [hs] at hslot; cases hslot
        | some x => rw [hs] at hslot; exact (List.cons.inj hslot).2
      · rw [if_neg hsource] at hslot
        rwa [slotAfterBegin, if_neg hsource]

theorem Link.Ok.endFrame (h : l.Ok) {f : OutFrame} (hsending : l.sending = some f) : (l.endFrame f).Ok := by
  have hplaces := h.places
  rw [Link.unsent, hsending] at hplaces
  refine Link.Ok.beginNext ?_ rfl
  have hnotices := h.notices
  cases f with
  | notice n => exact ⟨h.room, h.order, hplaces, h.slot, hnotices⟩
  | reply r =>
    by_cases hsource : r.source = .queued
    · have hsub := dropServed_sublist l.requests
      rw [requestsAfterEnd, if_pos hsource]
      refine ⟨hsub.length_le.trans h.room, h.order.sublist hsub, ?_, h.slot, hnotices⟩
      show (dropServed l.requests).countP Request.served = l.outgoing.countP OutFrame.holdsPlace
      rw [dropServed_count, hplaces]
      simp [OutFrame.holdsPlace, hsource]
    · rw [requestsAfterEnd, if_neg hsource]
      refine ⟨h.room, h.order, ?_, h.slot, hnotices⟩
      rw [hplaces]
      simp [Link.unsent, OutFrame.holdsPlace, hsource]

end

end Sys2Proof.Machine
end

section
/-! Every command keeps the link in order: each reaches it by raising notices and by one reply, and the link's own by the receiver
and the line. -/

namespace Sys2Proof.Machine

section
variable {s t : State}

/-! ## The units, the probes and the reference pulse -/

theorem State.raiseReported_linkOk (h : s.link.Ok) (before : Reported) (ln : LaneId) : (s.raiseReported before ln).link.Ok := by
  unfold State.raiseReported
  split
  · exact h
  · exact State.raise_linkOk h _

theorem State.putUnit_linkOk (h : s.link.Ok) (ch : ChannelId) (u : ChannelUnit) : (s.putUnit ch u).link.Ok := by
  unfold State.putUnit
  split
  · exact h
  · exact State.raiseReported_linkOk (State.raise_linkOk (s := s.setUnit ch u) h _) _ _

theorem State.sampleEvent_link (s : State) (ch : ChannelId) (e : SampleEvent) : (s.sampleEvent ch e).link = s.link := by
  cases e with
  | nothing => rfl
  | spike => rfl
  | accepted r =>
    unfold State.sampleEvent State.sendReport
    dsimp only
    split <;> rfl

theorem State.takeOverlong_linkOk (h : s.link.Ok) (ch : ChannelId) : (s.takeOverlong ch).link.Ok := by
  unfold State.takeOverlong
  dsimp only
  split
  · exact State.raise_linkOk (s := s.setUnit ch _) h _
  · exact State.putUnit_linkOk h _ _

theorem State.takeSample_linkOk (h : s.link.Ok) (ch : ChannelId) (x : Code) : (s.takeSample ch x).link.Ok := by
  unfold State.takeSample
  dsimp only
  split
  · exact h
  · split
    · exact State.putUnit_linkOk (by rwa [State.sampleEvent_link]) _ _
    · exact h

theorem State.supervise_linkOk (h : s.link.Ok) (v : Supervision) : (s.supervise v).link.Ok := by
  unfold State.supervise
  split
  · exact State.putUnit_linkOk (State.putUnit_linkOk (State.putUnit_linkOk (State.putUnit_linkOk h _ _) _ _) _ _) _ _
  · exact h

theorem State.putProbe_linkOk (h : s.link.Ok) (p : ProbeId) (x : Probe) : (s.putProbe p x).link.Ok := by
  unfold State.putProbe
  dsimp only
  split
  · exact h
  · exact State.raise_linkOk (s := { s with temp := _ }) h _

theorem State.reselect_link (s : State) : s.reselect.link = s.link := by
  unfold State.reselect
  dsimp only
  split <;> rfl

theorem State.gateAfterTake_link (s : State) : s.gateAfterTake.link = s.link := by
  unfold State.gateAfterTake
  split
  · rfl
  · split <;> rfl

theorem State.takeProbeSettings_linkOk (h : s.link.Ok) (set : TableSet) : (s.takeProbeSettings set).link.Ok := by
  have htreated : ∀ (probes : List ProbeId) (u : State), u.link.Ok →
      (probes.foldl (fun u p => u.putProbe p ((u.probe p).takeItem (set.probes.get p))) u).link.Ok := by
    intro probes
    induction probes with
    | nil => exact fun _ hu => hu
    | cons p rest ih => exact fun _ hu => ih _ (State.putProbe_linkOk hu p _)
  unfold State.takeProbeSettings
  dsimp only
  rw [State.gateAfterTake_link, State.reselect_link]
  exact htreated _ _ h

theorem State.examineInterval_linkOk (h : s.link.Ok) : s.examineInterval.link.Ok := by
  have hexamined := s.examineInterval_examined
  unfold IntervalExamined at hexamined
  split at hexamined
  · split at hexamined
    · rw [hexamined.2]
      exact h.raised _
    · rwa [hexamined.2]
  · rwa [hexamined.2]

theorem State.realign_linkOk (h : s.link.Ok) : s.realign.link.Ok := by
  unfold State.realign
  dsimp only
  split
  · exact h
  · exact State.examineInterval_linkOk h

theorem State.enterLock_linkOk (h : s.link.Ok) (lock : LockState) : (s.enterLock lock).link.Ok :=
  State.raise_linkOk (s := { s with tb := { s.tb with lock := lock, run := [], rejectRun := 0 } }) h _

theorem State.searchEdge_linkOk (h : s.link.Ok) (n : Nat) : (s.searchEdge n).link.Ok := by
  unfold State.searchEdge
  split
  · split
    · have haligned := State.realign_linkOk h
      rw [← State.setNRef_link s.realign] at haligned
      rw [State.lockOn]
      exact State.raise_linkOk haligned _
    · exact h
  · exact h

theorem State.judgeEdge_linkOk (h : s.link.Ok) (n : Nat) : (s.judgeEdge n).link.Ok := by
  unfold State.judgeEdge
  split
  · exact State.searchEdge_linkOk h n
  · exact State.searchEdge_linkOk h n
  · split
    · have haligned := State.realign_linkOk h
      rwa [← State.setNRef_link _ n] at haligned
    · unfold State.rejectEdge
      dsimp only
      split
      · exact State.enterLock_linkOk (s := s.countRejected) h _
      · exact h

theorem State.registerEdge_linkOk (h : s.link.Ok) : s.registerEdge.link.Ok := by
  unfold State.registerEdge
  split
  · exact h
  · exact State.judgeEdge_linkOk (s := s.noteEdge _) h _

/-! ## The lanes -/

theorem State.captureLaneOut_link (s : State) (ln : LaneId) : (s.captureLaneOut ln).link = s.link := by
  unfold State.captureLaneOut State.takeLaneOut
  split
  · rfl
  · split <;> rfl

theorem State.captureOpen_link (s : State) (ln : LaneId) (time : Tick) : (s.captureOpen ln time).link = s.link := by
  unfold State.captureOpen
  dsimp only
  split
  · split
    · rfl
    · unfold State.takeOpen
      split <;> rfl
  · rfl

theorem State.freeRetiring_link (s : State) : s.freeRetiring.link = s.link := by
  unfold State.freeRetiring
  split
  · rfl
  · split <;> rfl

theorem State.adopt_linkOk (h : s.link.Ok) (ln : LaneId) : (s.adopt ln).link.Ok := by
  unfold State.adopt
  split
  · exact h
  · refine State.raiseReported_linkOk ?_ _ _
    rw [State.freeRetiring_link]
    split
    · rwa [State.captureLaneOut_link]
    · exact h

theorem linkOk_traffic : TrafficKeeps fun s => s.link.Ok where
  reports := fun _ _ h => h
  setMatcher := fun _ _ _ h => h
  adoptIfQuiet := fun s ln h => by
    unfold State.adoptIfQuiet
    split
    · exact State.adopt_linkOk h ln
    · exact h
  openVehicle := fun s ln axle split h => by
    unfold State.openVehicle
    dsimp only
    split
    · exact h
    · rwa [State.captureOpen_link]
  close := fun _ _ _ _ _ _ _ h => h
  join := fun _ _ _ _ _ _ _ _ h => h

/-! ## The records, the drift and the capture -/

theorem State.readyTest_linkOk (h : s.link.Ok) : s.readyTest.link.Ok := by
  unfold State.readyTest
  split
  · exact State.raise_linkOk (s := { s with store := _ }) h _
  · exact h

theorem State.storeRecord_linkOk (h : s.link.Ok) (r : VehicleRecord) : (s.storeRecord r).link.Ok := by
  unfold State.storeRecord
  split
  · exact State.readyTest_linkOk h
  · exact h

theorem State.takeSite_linkOk (h : s.link.Ok) (site : SiteItem) : (s.takeSite site).link.Ok := by
  unfold State.takeSite
  dsimp only
  split
  · exact State.readyTest_linkOk h
  · exact h

theorem State.feed_linkOk (h : s.link.Ok) (ln : LaneId) (b : Band) (a1 : Nat) : (s.feed ln b a1).link.Ok := by
  unfold State.feed
  dsimp only
  split
  · exact h
  · split
    · exact State.raise_linkOk (s := s.setDriftBand _ _ _) h _
    · exact h

theorem State.closeTest_linkOk (h : s.link.Ok) (r : VehicleRecord) : (s.closeTest r).link.Ok := by
  unfold State.closeTest
  split
  · split
    · refine State.raise_linkOk ?_ _
      unfold State.setCaptured
      split <;> exact h
    · exact h
  · exact h

/-! ## The restart -/

theorem State.restartUnits_linkOk (h : s.link.Ok) : s.restartUnits.link.Ok := by
  unfold State.restartUnits
  generalize allChannels = channels
  induction channels generalizing s with
  | nil => exact h
  | cons ch rest ih => exact ih (State.putUnit_linkOk h _ _)

theorem State.emptied_link (s : State) : s.emptied.link = s.restartUnits.link := by
  unfold State.emptied
  generalize s.restartUnits = u
  rw [State.restartGate_frame]
  rfl

theorem State.restartBlocks_linkOk (h : s.link.Ok) : s.restartBlocks.link.Ok := by
  have hadopts : ∀ (lanes : List LaneId) (u : State), u.link.Ok → (lanes.foldl State.adopt u).link.Ok := by
    intro lanes
    induction lanes with
    | nil => exact fun u hu => hu
    | cons ln rest ih => exact fun u hu => ih _ (State.adopt_linkOk hu ln)
  rw [State.restartBlocks_eq, State.reopenTallies_link, State.freeRetiring_link]
  refine hadopts _ _ ?_
  rw [State.emptied_link]
  exact State.restartUnits_linkOk h

/-! ## All commands -/

theorem execPowerOn_linkOk {rate1 rate0 : Bool} (he : execPowerOn rate1 rate0 s = .next t) :
    t.link.Ok := by
  injection he with he
  subst he
  exact Link.start_ok _

theorem execChannelSample_linkOk {ch : ChannelId} {x : Code} (h : s.link.Ok) (he : execChannelSample ch x s = .next t) :
    t.link.Ok := by
  injection he with he
  subst he
  refine State.takeSample_linkOk ?_ ch x
  split
  · exact State.takeOverlong_linkOk h ch
  · exact h

theorem execPulseOverlong_linkOk {ch : ChannelId} (h : s.link.Ok) (he : execPulseOverlong ch s = .next t) :
    t.link.Ok := by
  injection he with he
  subst he
  split
  · exact State.takeOverlong_linkOk h ch
  · exact h

theorem execChannelSettingsWaiting_linkOk {ch : ChannelId} (h : s.link.Ok) (he : execChannelSettingsWaiting ch s = .next t) :
    t.link.Ok := by
  injection he with he
  subst he
  split
  · exact State.putUnit_linkOk h ch _
  · exact h

theorem execChannelSupervision_linkOk (h : s.link.Ok) (he : execChannelSupervision s = .next t) :
    t.link.Ok := by
  injection he with he
  subst he
  split
  · exact h
  · next v rest _ => exact State.supervise_linkOk (s := { s with mail := { s.mail with toUnits := rest } }) h _

theorem execRefEdge_linkOk {level : Bool} (h : s.link.Ok) (he : execRefEdge level s = .next t) :
    t.link.Ok := by
  injection he with he
  subst he
  split
  · exact State.registerEdge_linkOk (s := { s with tb := _ }) h
  · exact h

theorem execTimebaseSilence_linkOk (h : s.link.Ok) (he : execTimebaseSilence s = .next t) :
    t.link.Ok := by
  injection he with he
  subst he
  split
  · exact State.enterLock_linkOk h _
  · exact h

theorem execFreeRunningBoundary_linkOk (h : s.link.Ok) (he : execFreeRunningBoundary s = .next t) :
    t.link.Ok := by
  injection he with he
  subst he
  split
  · exact State.examineInterval_linkOk (s := { s with tb := _ }) h
  · exact h

theorem execPresenceSample_linkOk {ln : LaneId} {level : Bool} (h : s.link.Ok) (he : execPresenceSample ln level s = .next t) :
    t.link.Ok := by
  injection he with he
  subst he
  exact h

theorem execRecordStoreDelivery_linkOk (h : s.link.Ok) (he : execRecordStoreDelivery s = .next t) :
    t.link.Ok := by
  injection he with he
  subst he
  split
  · exact h
  · next r rest _ => exact State.storeRecord_linkOk (s := { s with mail := { s.mail with toStore := rest } }) h _

theorem execTallyRecord_linkOk (h : s.link.Ok) (he : execTallyRecord s = .next t) :
    t.link.Ok := by
  injection he with he
  subst he
  split <;> exact h

theorem execTallyDrop_linkOk (h : s.link.Ok) (he : execTallyDrop s = .next t) :
    t.link.Ok := by
  injection he with he
  subst he
  split <;> exact h

theorem execDriftFeed_linkOk (h : s.link.Ok) (he : execDriftFeed s = .next t) :
    t.link.Ok := by
  injection he with he
  subst he
  split
  · exact h
  · next r rest _ =>
    dsimp only
    split
    · exact State.feed_linkOk (s := { s with mail := { s.mail with toDrift := rest } }) h _ _ _
    · exact h

theorem execCaptureCloseTest_linkOk (h : s.link.Ok) (he : execCaptureCloseTest s = .next t) :
    t.link.Ok := by
  injection he with he
  subst he
  split
  · exact h
  · next d rest _ =>
    rw [State.takeWaiting_frame]
    exact State.closeTest_linkOk (s := { s with mail := { s.mail with toCapture := rest } }) h d.record

theorem execCaptureWrite_linkOk (h : s.link.Ok) (he : execCaptureWrite s = .next t) :
    t.link.Ok := by
  injection he with he
  subst he
  split
  · split <;> exact h
  · exact h

theorem execGateEnd_linkOk (h : s.link.Ok) (he : execGateEnd s = .next t) :
    t.link.Ok := by
  injection he with he
  subst he
  split
  · exact h
  · unfold State.endGate
    dsimp only
    rw [State.startGate_link, State.reselect_link]
    exact State.putProbe_linkOk h _ _

theorem execProbeSettingsTake_linkOk (h : s.link.Ok) (he : execProbeSettingsTake s = .next t) :
    t.link.Ok := by
  injection he with he
  subst he
  split
  · exact h
  · next set rest _ => exact State.takeProbeSettings_linkOk (s := { s with mail := { s.mail with tempOffers := rest } }) h _

theorem execDriftPolicyTake_linkOk (h : s.link.Ok) (he : execDriftPolicyTake s = .next t) :
    t.link.Ok := by
  injection he with he
  subst he
  split <;> exact h

theorem execSiteSettingsTake_linkOk (h : s.link.Ok) (he : execSiteSettingsTake s = .next t) :
    t.link.Ok := by
  injection he with he
  subst he
  split
  · exact h
  · next site rest _ => exact State.takeSite_linkOk (s := { s with mail := { s.mail with siteOffers := rest } }) h _

theorem execProbeEdge_linkOk {p : ProbeId} (h : s.link.Ok) (he : execProbeEdge p s = .next t) :
    t.link.Ok := by
  injection he with he
  subst he
  exact h

theorem execInboundByte_linkOk {byte : Byte} {fault : Bool} (h : s.link.Ok) (he : execInboundByte byte fault s = .next t) :
    t.link.Ok := by
  injection he with he
  subst he
  exact (h.takeByte byte fault).receiver _ _ _ _

theorem execFrameGapExpiry_linkOk (h : s.link.Ok) (he : execFrameGapExpiry s = .next t) :
    t.link.Ok := by
  injection he with he
  subst he
  split
  · exact h.receiver _ _ _ _
  · exact h

theorem execTransmitEnd_linkOk (h : s.link.Ok) (he : execTransmitEnd s = .next t) :
    t.link.Ok := by
  injection he with he
  subst he
  dsimp only
  have hbegun : (if s.link.sending.isNone then s.link.beginNext else s.link).Ok := by
    split
    · next hidle => exact h.beginNext (Option.isNone_iff_eq_none.1 hidle)
    · exact h
  split
  · exact h
  · next hsending => exact hbegun.endFrame hsending

theorem execUnknownRequest_linkOk {kind tag : Byte} {body : List Byte} (h : s.link.Ok) (he : execUnknownRequest kind tag body s = .next t) :
    t.link.Ok := by
  injection he with he
  subst he
  split
  · exact State.answer_linkOk h _ _ _ _
  · exact h

theorem execStatus_linkOk {tag : Byte} {body : List Byte} (h : s.link.Ok) (he : execStatus tag body s = .next t) :
    t.link.Ok := by
  injection he with he
  subst he
  split
  · exact State.answer_linkOk h _ _ _ _
  · exact State.answer_linkOk (s := s.clearReported) (h.receiver _ _ _ _) _ _ _ _

theorem execLiveRead_linkOk {tag : Byte} {body : List Byte} (h : s.link.Ok) (he : execLiveRead tag body s = .next t) :
    t.link.Ok := by
  injection he with he
  subst he
  exact State.answer_linkOk h _ _ _ _

theorem execTimeSet_linkOk {tag : Byte} {body : List Byte} (h : s.link.Ok) (he : execTimeSet tag body s = .next t) :
    t.link.Ok := by
  injection he with he
  subst he
  split
  · exact State.answer_linkOk h _ _ _ _
  · exact State.answer_linkOk (s := { s with tb := _ }) h _ _ _ _

theorem execChannelRestore_linkOk {tag : Byte} {body : List Byte} (h : s.link.Ok) (he : execChannelRestore tag body s = .next t) :
    t.link.Ok := by
  injection he with he
  subst he
  split
  · exact State.answer_linkOk h _ _ _ _
  · split
    · exact State.answer_linkOk h _ _ _ _
    · refine State.answer_linkOk ?_ _ _ _ _
      split
      · exact State.putUnit_linkOk h _ _
      · exact h

theorem execProbeRestore_linkOk {tag : Byte} {body : List Byte} (h : s.link.Ok) (he : execProbeRestore tag body s = .next t) :
    t.link.Ok := by
  injection he with he
  subst he
  split
  · exact State.answer_linkOk h _ _ _ _
  · split
    · exact State.answer_linkOk h _ _ _ _
    · refine State.answer_linkOk ?_ _ _ _ _
      split
      · rw [State.reselect_link]
        exact State.putProbe_linkOk h _ _
      · exact h

theorem execStageOpen_linkOk {tag : Byte} {body : List Byte} (h : s.link.Ok) (he : execStageOpen tag body s = .next t) :
    t.link.Ok := by
  injection he with he
  subst he
  split
  · exact State.answer_linkOk h _ _ _ _
  · split
    · exact State.answer_linkOk h _ _ _ _
    · exact State.answer_linkOk (s := s.setStaging _) h _ _ _ _

theorem execStagePut_linkOk {tag : Byte} {body : List Byte} (h : s.link.Ok) (he : execStagePut tag body s = .next t) :
    t.link.Ok := by
  injection he with he
  subst he
  split
  · exact State.answer_linkOk h _ _ _ _
  · split
    · exact State.answer_linkOk h _ _ _ _
    · exact State.answer_linkOk h _ _ _ _
    · exact State.answer_linkOk (s := s.setStaging _) h _ _ _ _

theorem execStageDiscard_linkOk {tag : Byte} {body : List Byte} (h : s.link.Ok) (he : execStageDiscard tag body s = .next t) :
    t.link.Ok := by
  injection he with he
  subst he
  split
  · exact State.answer_linkOk h _ _ _ _
  · split
    · exact State.answer_linkOk h _ _ _ _
    · exact State.answer_linkOk (s := s.setStaging _) h _ _ _ _

theorem execTableRead_linkOk {tag : Byte} {body : List Byte} (h : s.link.Ok) (he : execTableRead tag body s = .next t) :
    t.link.Ok := by
  injection he with he
  subst he
  exact State.answer_linkOk h _ _ _ _

theorem execDriftGet_linkOk {tag : Byte} {body : List Byte} (h : s.link.Ok) (he : execDriftGet tag body s = .next t) :
    t.link.Ok := by
  injection he with he
  subst he
  exact State.answer_linkOk h _ _ _ _

theorem execDriftSet_linkOk {tag : Byte} {body : List Byte} (h : s.link.Ok) (he : execDriftSet tag body s = .next t) :
    t.link.Ok := by
  injection he with he
  subst he
  split
  · exact State.answer_linkOk h _ _ _ _
  · split
    · dsimp only
      split
      · exact State.answer_linkOk (s := s.setDriftBand _ _ _) h _ _ _ _
      · exact State.answer_linkOk h _ _ _ _
    · exact State.answer_linkOk h _ _ _ _

theorem execDriftFreeze_linkOk {tag : Byte} {body : List Byte} (h : s.link.Ok) (he : execDriftFreeze tag body s = .next t) :
    t.link.Ok := by
  injection he with he
  subst he
  split
  · exact State.answer_linkOk h _ _ _ _
  · split
    · exact State.answer_linkOk (s := s.setFrozen _ _) h _ _ _ _
    · exact State.answer_linkOk h _ _ _ _

theorem execRecordFetch_linkOk {tag : Byte} {body : List Byte} (h : s.link.Ok) (he : execRecordFetch tag body s = .next t) :
    t.link.Ok := by
  injection he with he
  subst he
  exact State.answer_linkOk h _ _ _ _

theorem execRecordRelease_linkOk {tag : Byte} {body : List Byte} (h : s.link.Ok) (he : execRecordRelease tag body s = .next t) :
    t.link.Ok := by
  injection he with he
  subst he
  split
  · exact State.answer_linkOk h _ _ _ _
  · dsimp only
    split
    · exact State.answer_linkOk h _ _ _ _
    · exact State.answer_linkOk (s := { s with store := _ }) h _ _ _ _

theorem execTallyFetch_linkOk {tag : Byte} {body : List Byte} (h : s.link.Ok) (he : execTallyFetch tag body s = .next t) :
    t.link.Ok := by
  injection he with he
  subst he
  exact State.answer_linkOk h _ _ _ _

theorem execTallyRelease_linkOk {tag : Byte} {body : List Byte} (h : s.link.Ok) (he : execTallyRelease tag body s = .next t) :
    t.link.Ok := by
  injection he with he
  subst he
  split
  · exact State.answer_linkOk h _ _ _ _
  · split
    · exact State.answer_linkOk h _ _ _ _
    · exact State.answer_linkOk (s := { s with tally := _ }) h _ _ _ _

theorem execCaptureArm_linkOk {tag : Byte} {body : List Byte} (h : s.link.Ok) (he : execCaptureArm tag body s = .next t) :
    t.link.Ok := by
  injection he with he
  subst he
  split
  · exact State.answer_linkOk h _ _ _ _
  · split
    · exact State.answer_linkOk h _ _ _ _
    · split
      · dsimp only
        split
        · exact State.answer_linkOk h _ _ _ _
        · exact State.answer_linkOk (s := { s.dropWaiting with capture := _ }) h _ _ _ _
      · exact State.answer_linkOk h _ _ _ _

theorem execCaptureFetch_linkOk {tag : Byte} {body : List Byte} (h : s.link.Ok) (he : execCaptureFetch tag body s = .next t) :
    t.link.Ok := by
  injection he with he
  subst he
  exact State.answer_linkOk h _ _ _ _

theorem execCaptureRelease_linkOk {tag : Byte} {body : List Byte} (h : s.link.Ok) (he : execCaptureRelease tag body s = .next t) :
    t.link.Ok := by
  injection he with he
  subst he
  split
  · exact State.answer_linkOk h _ _ _ _
  · exact State.answer_linkOk (s := { s with capture := _ }) h _ _ _ _

theorem exec_linkOk (c : Instr) (s t : State) (h : s.link.Ok) (he : exec c s = .next t) : t.link.Ok := by
  cases c
  case pulseReport => exact linkOk_traffic.execPulseReport h he
  case holdExpiry => exact linkOk_traffic.execHoldExpiry h he
  case pendingExpiry => exact linkOk_traffic.execPendingExpiry h he
  case deliveryMarkLapse => exact linkOk_traffic.execDeliveryMarkLapse h he
  case gapWithLoop => exact linkOk_traffic.execGapWithLoop h he
  case gapWithoutLoop => exact linkOk_traffic.execGapWithoutLoop h he
  case timeout => exact linkOk_traffic.execTimeout h he
  case restart tag body =>
    rcases execRestart_cases he with ⟨-, rfl⟩ | ⟨-, rfl⟩
    · exact State.answer_linkOk h _ _ _ _
    · exact State.raise_linkOk (State.answer_linkOk (State.restartBlocks_linkOk h) _ _ _ _) _
  case stageCommit =>
    rcases execStageCommit_cases he with ⟨reply, rfl⟩ | ⟨x, reset, reply, -, -, -, -, rfl⟩
    · exact State.answer_linkOk h _ _ _ _
    · refine State.answer_linkOk ?_ _ _ _ _
      rw [State.commit, State.freeRetiring_link]
      exact linkOk_traffic.settle (s := s.promote _ _) h
  case powerOn => exact execPowerOn_linkOk he
  case channelSample => exact execChannelSample_linkOk h he
  case pulseOverlong => exact execPulseOverlong_linkOk h he
  case channelSettingsWaiting => exact execChannelSettingsWaiting_linkOk h he
  case channelSupervision => exact execChannelSupervision_linkOk h he
  case refEdge => exact execRefEdge_linkOk h he
  case timebaseSilence => exact execTimebaseSilence_linkOk h he
  case freeRunningBoundary => exact execFreeRunningBoundary_linkOk h he
  case presenceSample => exact execPresenceSample_linkOk h he
  case recordStoreDelivery => exact execRecordStoreDelivery_linkOk h he
  case tallyRecord => exact execTallyRecord_linkOk h he
  case tallyDrop => exact execTallyDrop_linkOk h he
  case driftFeed => exact execDriftFeed_linkOk h he
  case captureCloseTest => exact execCaptureCloseTest_linkOk h he
  case captureWrite => exact execCaptureWrite_linkOk h he
  case gateEnd => exact execGateEnd_linkOk h he
  case probeSettingsTake => exact execProbeSettingsTake_linkOk h he
  case driftPolicyTake => exact execDriftPolicyTake_linkOk h he
  case siteSettingsTake => exact execSiteSettingsTake_linkOk h he
  case probeEdge => exact execProbeEdge_linkOk h he
  case inboundByte => exact execInboundByte_linkOk h he
  case frameGapExpiry => exact execFrameGapExpiry_linkOk h he
  case transmitEnd => exact execTransmitEnd_linkOk h he
  case unknownRequest => exact execUnknownRequest_linkOk h he
  case status => exact execStatus_linkOk h he
  case liveRead => exact execLiveRead_linkOk h he
  case timeSet => exact execTimeSet_linkOk h he
  case channelRestore => exact execChannelRestore_linkOk h he
  case probeRestore => exact execProbeRestore_linkOk h he
  case stageOpen => exact execStageOpen_linkOk h he
  case stagePut => exact execStagePut_linkOk h he
  case stageDiscard => exact execStageDiscard_linkOk h he
  case tableRead => exact execTableRead_linkOk h he
  case driftGet => exact execDriftGet_linkOk h he
  case driftSet => exact execDriftSet_linkOk h he
  case driftFreeze => exact execDriftFreeze_linkOk h he
  case recordFetch => exact execRecordFetch_linkOk h he
  case recordRelease => exact execRecordRelease_linkOk h he
  case tallyFetch => exact execTallyFetch_linkOk h he
  case tallyRelease => exact execTallyRelease_linkOk h he
  case captureArm => exact execCaptureArm_linkOk h he
  case captureFetch => exact execCaptureFetch_linkOk h he
  case captureRelease => exact execCaptureRelease_linkOk h he

theorem exec_linkInv (c : Instr) (s t : State) (h : s.LinkInv) (he : exec c s = .next t) : t.LinkInv :=
  State.linkInv_iff.2 (exec_linkOk c s t (State.linkInv_iff.1 h) he)

/-- The idle step begins a frame on an idle line, or lets a tick pass. -/
theorem State.idle_linkInv (s : State) (h : s.LinkInv) : s.idle.LinkInv := by
  rcases s.idle_cases with ⟨hidle, -, hs⟩ | hs
  · rw [hs]
    exact State.linkInv_iff.2 ((State.linkInv_iff.1 h).beginNext hidle)
  · rw [hs]
    exact h

end

/-- Settles O59: every command keeps the link in order, by its raises, its reply, the receiver or the line, and so does the idle
step. -/
theorem stepsKeepLink : Obligations.StepsKeepLink := fun _ _ hstep h =>
  step_keeps (fun _ _ hs => hs) exec_linkInv State.idle_linkInv h hstep

end Sys2Proof.Machine
end

section
/-! The step, the starts, the invariants after reset, and the setting of the site clock. -/

namespace Sys2Proof.Machine

/-! ## The step -/

/-- Settles O1: a step is defined by the front of the queue. -/
theorem stepRunsFrontCommand : Obligations.StepRunsFrontCommand := fun c rest s hpending => by
  rw [step]
  split
  · next c' rest' hfront =>
    obtain ⟨rfl, rfl⟩ := List.cons.inj (hpending.symm.trans hfront)
    rfl
  · next hempty => rw [hpending] at hempty; cases hempty

/-- Each arm of the dispatch answers a next state. -/
theorem exec_answers (c : Instr) (s : State) : ∃ t, exec c s = .next t := by
  cases c <;> exact ⟨_, rfl⟩

theorem exec_pending (c : Instr) (s t : State) (h : exec c s = .next t) : t.pending = s.pending := by
  cases c
  case powerOn => injection h with h; subst h; rfl
  case refEdge => exact (execRefEdge_clock h).pending
  case timebaseSilence => exact (execTimebaseSilence_clock h).pending
  case freeRunningBoundary => exact (execFreeRunningBoundary_clock h).pending
  case timeSet => rw [execTimeSet_frame h]
  case status => rw [execStatus_frame h]
  case channelSample => exact (execChannelSample_channel h).pending
  case pulseOverlong => exact (execPulseOverlong_channel h).pending
  case channelSettingsWaiting => exact (execChannelSettingsWaiting_channel h).pending
  case channelSupervision => exact (execChannelSupervision_channel h).pending
  case channelRestore => exact (execChannelRestore_channel h).pending
  case pulseReport => exact (execPulseReport_frame h).pending
  case holdExpiry => exact (execHoldExpiry_frame h).pending
  case pendingExpiry => exact (execPendingExpiry_frame h).pending
  case deliveryMarkLapse => exact (execDeliveryMarkLapse_frame h).pending
  case presenceSample => exact (execPresenceSample_frame h).pending
  case gapWithLoop => exact (execGapWithLoop_frame h).pending
  case gapWithoutLoop => exact (execGapWithoutLoop_frame h).pending
  case timeout => exact (execTimeout_frame h).pending
  case gateEnd => exact (execGateEnd_frame h).pending
  case probeEdge => exact (execProbeEdge_frame h).pending
  case probeSettingsTake => exact (execProbeSettingsTake_frame h).pending
  case probeRestore => exact (execProbeRestore_frame h).pending
  case restart tag body =>
    rcases execRestart_cases h with ⟨-, rfl⟩ | ⟨-, rfl⟩
    · rfl
    · rw [State.raise_pending, State.answer_pending]; exact (State.restartBlocks_frame s).pending
  case stageCommit =>
    rcases execStageCommit_cases h with ⟨r, rfl⟩ | ⟨x, rs, r, -, -, -, -, rfl⟩
    · rfl
    · rw [State.answer_pending]; exact (State.commit_frame _ _ _).pending
  case recordStoreDelivery => rw [execRecordStoreDelivery_frame h]
  case tallyRecord => rw [execTallyRecord_frame h]
  case tallyDrop => rw [execTallyDrop_frame h]
  case driftFeed => rw [execDriftFeed_frame h]
  case captureCloseTest => rw [execCaptureCloseTest_frame h]
  case captureWrite => rw [execCaptureWrite_frame h]
  case driftPolicyTake => rw [execDriftPolicyTake_frame h]
  case siteSettingsTake => rw [execSiteSettingsTake_frame h]
  case inboundByte => rw [execInboundByte_frame h]
  case frameGapExpiry => rw [execFrameGapExpiry_frame h]
  case transmitEnd => rw [execTransmitEnd_frame h]
  case unknownRequest => rw [execUnknownRequest_frame h]
  case liveRead => rw [execLiveRead_frame h]
  case stageOpen => rw [execStageOpen_frame h]
  case stagePut => rw [execStagePut_frame h]
  case stageDiscard => rw [execStageDiscard_frame h]
  case tableRead => rw [execTableRead_frame h]
  case driftGet => rw [execDriftGet_frame h]
  case driftSet => rw [execDriftSet_frame h]
  case driftFreeze => rw [execDriftFreeze_frame h]
  case recordFetch => rw [execRecordFetch_frame h]
  case recordRelease => rw [execRecordRelease_frame h]
  case tallyFetch => rw [execTallyFetch_frame h]
  case tallyRelease => rw [execTallyRelease_frame h]
  case captureArm => rw [execCaptureArm_frame h]
  case captureFetch => rw [execCaptureFetch_frame h]
  case captureRelease => rw [execCaptureRelease_frame h]
/-- Settles O2: every arm answers a next state, and the frame of each command leaves the queue alone. -/
theorem everyCommandCompletes : Obligations.EveryCommandCompletes := fun c s => by
  obtain ⟨t, ht⟩ := exec_answers c s
  exact ⟨t, ht, exec_pending c s t ht⟩

/-! ## The starts -/

theorem DriftTracker.start_band (ln : LaneId) (b : Band) : (DriftTracker.start.lanes.get ln).bands.get b = DriftBand.start := by
  simp [DriftTracker.start]

/-- Settles O3: power-on is the state after reset, with the straps' rate, and its blocks' start values are those of the rules. -/
theorem powerOnSetsStartValues : Obligations.PowerOnSetsStartValues := fun rate1 rate0 s => by
  refine ⟨_, rfl, rfl, rfl, fun ch => ?_, fun ln => ?_, fun ln => ?_, fun p => ?_, ⟨rfl, rfl, rfl, rfl, rfl, rfl, rfl⟩, rfl,
    fun ln => ?_, fun ln b => ?_, rfl, rfl, ⟨fun ln => ?_, rfl, rfl, rfl, rfl⟩, rfl, ?_, rfl, ?_⟩
  · exact State.reset_unit ch
  · exact congrArg Lane.matcher (Four.get_fill Lane.start ln)
  · exact congrArg Lane.asm (Four.get_fill Lane.start ln)
  · exact Four.get_fill Probe.start p
  · exact congrArg DriftLane.frozen (Four.get_fill _ ln)
  · exact DriftTracker.start_band ln b
  · exact Four.get_fill _ ln
  · cases rate1 <;> cases rate0 <;> rfl
  · rintro rfl rfl
    rfl

/-- Settles O60: each invariant holds of the start values of its block. -/
theorem resetMeetsInvariants : Obligations.ResetMeetsInvariants := by
  refine ⟨⟨by decide, by decide, by decide, fun n hn => (by cases hn), by decide⟩, ?_, ?_, State.reset_channelInv,
    State.reset_laneInv, ?_, State.reset_generationInv, ?_, ?_, ?_⟩
  · intro ln b
    show ((DriftTracker.start.lanes.get ln).bands.get b).InRange
    rw [DriftTracker.start_band]
    exact DriftBand.start_inRange
  · exact (State.selectionInv_iff _).2 TempUnit.start_selected
  · exact (State.settingsInv_iff _).2 ⟨State.reset_setsOk, DriftTracker.start_ok⟩
  · exact (State.recordInv_iff _).2 State.reset_recordsOk
  · exact State.tallyInv_iff.2 TallyUnit.start_ok
  · exact State.linkInv_iff.2 (Link.start_ok _)

/-! ## The site clock -/

theorem leBytes_value (v : Seconds) : BitVec.ofNat 32 (leNat (leBytes 4 v.toNat)) = v := by
  rw [leNat_leBytes]
  exact BitVec.eq_of_toNat_eq (by rw [BitVec.toNat_ofNat]; have := v.isLt; omega)

/-- Settles O7: a body of four bytes is the new S, and the reply is all else that changes. -/
theorem timeSetReplacesSeconds : Obligations.TimeSetReplacesSeconds := fun s tag => by
  refine ⟨fun v => ?_, fun body hlength => ?_⟩
  · have hexec : exec (.timeSet tag (leBytes 4 v.toNat)) s =
        .next ({ s with tb := { s.tb with seconds := v } }.answer 0x03 tag (leBytes 4 v.toNat) [codeOk]) := by
      show execTimeSet _ _ _ = _
      rw [execTimeSet, if_neg (by simp), leBytes_value]
    exact ⟨_, hexec, State.answer_replied { s with tb := _ } _ _ _ _, rfl⟩
  · have hexec : exec (.timeSet tag body) s = .next (s.answer 0x03 tag body [codeBadLength]) := by
      show execTimeSet _ _ _ = _
      rw [execTimeSet, if_pos hlength]
    exact ⟨_, hexec, s.answer_only _ _ _ _⟩

end Sys2Proof.Machine
end

section
/-! The timebase without an edge, the device of its own accord, and the stamp of a record (R1, R6, R8, R11). -/

namespace Sys2Proof.Machine

section
variable {s : State}

/-! ## The silence and the free-running boundary (R6, R8) -/

theorem State.silenceDue_iff (s : State) :
    s.silenceDue = true ↔ s.tb.lock = .locked ∧ ∃ past, s.tb.tLast = some past ∧ 15000 ≤ ticksSince s.tb.t past := by
  simp only [State.silenceDue, Bool.and_eq_true, decide_eq_true_eq, Option.any_eq_true]
  rfl

theorem exec_timebaseSilence_due (h : s.silenceDue = true) : exec .timebaseSilence s = .next (s.enterLock .free) := by
  show execTimebaseSilence s = _
  rw [execTimebaseSilence, if_pos h]

theorem exec_timebaseSilence_idle (h : ¬ s.silenceDue = true) : exec .timebaseSilence s = .next s := by
  show execTimebaseSilence s = _
  rw [execTimebaseSilence, if_neg h]

theorem State.boundaryDue_iff (s : State) : s.boundaryDue = true ↔ s.tb.nRef ≤ ticksSince s.tb.t s.tb.mark := decide_eq_true_iff

theorem exec_freeRunningBoundary_due (h : s.boundaryDue = true) : exec .freeRunningBoundary s =
    .next (State.secondBoundary { s with tb := { s.tb with mark := tickAdd s.tb.mark s.tb.nRef } }) := by
  show execFreeRunningBoundary s = _
  rw [execFreeRunningBoundary, if_pos h]

theorem exec_freeRunningBoundary_idle (h : ¬ s.boundaryDue = true) : exec .freeRunningBoundary s = .next s := by
  show execFreeRunningBoundary s = _
  rw [execFreeRunningBoundary, if_neg h]

/-- A second boundary reaches S, the Tally Unit and the link alone. -/
theorem State.secondBoundary_frame (s : State) : s.secondBoundary = { s with
    tb := s.secondBoundary.tb, tally := s.secondBoundary.tally, link := s.secondBoundary.link } := by
  unfold State.secondBoundary State.examineInterval
  split
  · split <;> rfl
  · rfl

/-! ## What the device does of its own accord -/

theorem step_of_due (hp : s.pending = []) {c : Instr} (h : s.nextDue = some c) : step s = exec c s := by
  rw [step, hp]
  simp only [h]

theorem step_idle (hp : s.pending = []) (h : s.nextDue = none) : step s = .next s.idle := by
  rw [step, hp]
  simp only [h]

theorem State.writeDue_iff (s : State) : s.writeDue = true ↔
    (s.capture.state = .armed ∨ s.capture.state = .recording) ∧ s.capture.nextWrite = s.tb.t := by
  unfold State.writeDue CaptureUnit.writing
  cases s.capture.state <;> simp

/-- What a choice gives is one of the device's own events. -/
def Owned (choice : Option Instr) : Prop := ∀ c, choice = some c → c ∈ ownEvents

theorem Owned.or {a b : Option Instr} (ha : Owned a) (hb : Owned b) : Owned (a.or b) := fun c hc => by
  rcases Option.or_eq_some_iff.1 hc with h | ⟨-, h⟩
  exacts [ha c h, hb c h]

theorem owned_whenAny {α : Type} {l : List α} {c : Instr} (hc : c ∈ ownEvents) : Owned (whenAny l c) := fun d hd => by
  rw [whenAny_eq_some] at hd
  exact hd.2 ▸ hc

theorem owned_dueIf {b : Bool} {c : Instr} (hc : c ∈ ownEvents) : Owned (dueIf b c) := fun d hd => by
  rw [dueIf_eq_some] at hd
  exact hd.2 ▸ hc

theorem owned_findSome {α : Type} {l : List α} {f : α → Option Instr} (h : ∀ x, Owned (f x)) : Owned (l.findSome? f) :=
  fun c hc => by
    obtain ⟨x, -, hx⟩ := List.exists_of_findSome?_eq_some hc
    exact h x c hx

theorem ownEvents_channel (ch : ChannelId) :
    .pulseOverlong ch ∈ ownEvents ∧ .channelSettingsWaiting ch ∈ ownEvents ∧ .holdExpiry ch ∈ ownEvents := by
  simp [ownEvents]

theorem ownEvents_lane (ln : LaneId) :
    .pendingExpiry ln ∈ ownEvents ∧ .deliveryMarkLapse ln ∈ ownEvents ∧ .gapWithLoop ln ∈ ownEvents ∧
      .gapWithoutLoop ln ∈ ownEvents ∧ .timeout ln ∈ ownEvents := by
  have hln : ln ∈ fours := by revert ln; decide
  simp [ownEvents, hln]

theorem State.deliveryDue_own (s : State) : Owned s.deliveryDue := by
  unfold State.deliveryDue
  refine (owned_whenAny ?_).or <| (owned_whenAny ?_).or <| (owned_whenAny ?_).or <| (owned_whenAny ?_).or <|
    (owned_whenAny ?_).or <| (owned_whenAny ?_).or <| (owned_whenAny ?_).or <| (owned_whenAny ?_).or <|
    (owned_whenAny ?_).or <| (owned_whenAny ?_).or <| (owned_findSome fun ch => owned_dueIf (ownEvents_channel ch).1).or <|
    owned_findSome fun ch => owned_dueIf (ownEvents_channel ch).2.1
  all_goals simp [ownEvents]

theorem State.expiryDue_own (s : State) : Owned s.expiryDue := by
  unfold State.expiryDue
  refine (owned_dueIf ?_).or <| (owned_dueIf ?_).or <| (owned_dueIf ?_).or <| (owned_dueIf ?_).or <|
    (owned_findSome fun ch => owned_dueIf (ownEvents_channel ch).2.2).or <|
    (owned_findSome fun ln => owned_dueIf (ownEvents_lane ln).1).or <|
    (owned_findSome fun ln => owned_dueIf (ownEvents_lane ln).2.1).or <|
    (owned_findSome fun ln => owned_dueIf (ownEvents_lane ln).2.2.1).or <|
    (owned_findSome fun ln => owned_dueIf (ownEvents_lane ln).2.2.2.1).or <|
    owned_findSome fun ln => owned_dueIf (ownEvents_lane ln).2.2.2.2
  all_goals simp [ownEvents]

/-- With nothing due, none of the device's own events changes anything: each looks at the condition that its being due is. -/
theorem exec_ownEvent_idle (hdelivery : s.deliveryDue = none) (hexpiry : s.expiryDue = none) (hwrite : ¬ s.writeDue = true)
    {c : Instr} (hc : c ∈ ownEvents) : exec c s = .next s := by
  have mem_fours : ∀ ln : LaneId, ln ∈ fours := by decide
  simp only [State.deliveryDue, Option.or_eq_none_iff, whenAny_eq_none, List.findSome?_eq_none_iff, dueIf_eq_none,
    mem_allChannels, forall_const] at hdelivery
  simp only [State.expiryDue, Option.or_eq_none_iff, List.findSome?_eq_none_iff, dueIf_eq_none, mem_allChannels,
    forall_const, mem_fours, Option.isSome_eq_false_iff, Option.isNone_iff_eq_none] at hexpiry
  obtain ⟨hreports, hstore, hdrops, htally, hdrift, hcapture, hunits, htemp, hpolicy, hsite, hoverlong, hwaiting⟩ := hdelivery
  obtain ⟨hsilence, hboundary, hgate, hgap, hhold, hpending, hmark, hloop, hnoLoop, htimeout⟩ := hexpiry
  simp only [ownEvents, List.mem_append, List.mem_flatMap, List.mem_cons, List.not_mem_nil, or_false, mem_allChannels,
    true_and, mem_fours] at hc
  rcases hc with (hc | ⟨ch, hc⟩) | ⟨ln, hc⟩
  · rcases hc with rfl | rfl | rfl | rfl | rfl | rfl | rfl | rfl | rfl | rfl | rfl | rfl | rfl | rfl | rfl
    · simp only [exec, execPulseReport, hreports]
    · simp only [exec, execRecordStoreDelivery, hstore]
    · simp only [exec, execTallyDrop, hdrops]
    · simp only [exec, execTallyRecord, htally]
    · simp only [exec, execDriftFeed, hdrift]
    · simp only [exec, execCaptureCloseTest, hcapture]
    · simp only [exec, execChannelSupervision, hunits]
    · simp only [exec, execProbeSettingsTake, htemp]
    · simp only [exec, execDriftPolicyTake, hpolicy]
    · simp only [exec, execSiteSettingsTake, hsite]
    · exact exec_timebaseSilence_idle (by rw [hsilence]; decide)
    · exact exec_freeRunningBoundary_idle (by rw [hboundary]; decide)
    · simp only [exec, execGateEnd, hgate]
    · simp [exec, execFrameGapExpiry, hgap]
    · simp [exec, execCaptureWrite, hwrite]
  · rcases hc with rfl | rfl | rfl
    · simp [exec, execPulseOverlong, hoverlong ch]
    · simp [exec, execChannelSettingsWaiting, hwaiting ch]
    · simp only [exec, execHoldExpiry, hhold ch]
  · rcases hc with rfl | rfl | rfl | rfl | rfl
    · simp only [exec, execPendingExpiry, hpending ln]
    · simp [exec, execDeliveryMarkLapse, hmark ln]
    · simp only [exec, execGapWithLoop, hloop ln]
    · simp only [exec, execGapWithoutLoop, hnoLoop ln]
    · simp only [exec, execTimeout, htimeout ln]

theorem slotAfterBegin_eq (slot : Option Reply) (f : OutFrame) : slotAfterBegin slot f = slotBegun slot f := by
  cases f <;> rfl

theorem State.nextDue_of_rest (hdelivery : s.deliveryDue = none) (hexpiry : s.expiryDue = none) :
    s.nextDue = s.requestDue.or (dueIf s.writeDue .captureWrite) := by
  rw [State.nextDue, hdelivery, hexpiry]
  rfl

end

/-- Settles O6: the two events by their conditions, and a step with no command waiting by what is due, in its order. -/
theorem timebaseRunsWithoutEdges : Obligations.TimebaseRunsWithoutEdges := fun s => by
  refine ⟨fun past hlocked hpast hsilent => ?_, fun hquiet => ?_, fun hdue => ?_, fun hearly => ?_, fun hp => ?_⟩
  · exact exec_timebaseSilence_due (s.silenceDue_iff.2 ⟨hlocked, past, hpast, hsilent⟩)
  · refine exec_timebaseSilence_idle fun hdue => ?_
    obtain ⟨hlocked, past, hpast, hsilent⟩ := s.silenceDue_iff.1 hdue
    rcases hquiet with hfree | hrecent
    · exact hfree hlocked
    · exact absurd (hrecent past hpast) (by omega)
  · have hframe := State.secondBoundary_frame { s with tb := { s.tb with mark := tickAdd s.tb.mark s.tb.nRef } }
    exact ⟨_, exec_freeRunningBoundary_due (s.boundaryDue_iff.2 hdue), State.secondBoundary_tb _,
      State.secondBoundary_examined { s with tb := { s.tb with mark := tickAdd s.tb.mark s.tb.nRef } }, hframe⟩
  · exact exec_freeRunningBoundary_idle fun hdue => absurd (s.boundaryDue_iff.1 hdue) (by omega)
  · refine ⟨fun c hc => ?_, fun c hdelivery hc => ?_, fun hrest before r after hrequests hbefore hr => ?_,
      fun hrest hserved hwrites => ?_, fun hrest hserved hwrites => ?_⟩
    · exact ⟨step_of_due hp (by rw [State.nextDue, hc]; rfl), s.deliveryDue_own c hc⟩
    · exact ⟨step_of_due hp (by rw [State.nextDue, hdelivery, hc]; rfl), s.expiryDue_own c hc⟩
    · refine step_of_due hp ?_
      rw [State.nextDue_of_rest hrest.1 hrest.2, s.requestDue_oldest before after r hrequests hbefore hr]
      rfl
    · refine step_of_due hp ?_
      rw [State.nextDue_of_rest hrest.1 hrest.2, s.requestDue_eq_none.2 hserved, s.writeDue_iff.2 hwrites]
      rfl
    · have hwrite : ¬ s.writeDue = true := fun h => hwrites (s.writeDue_iff.1 h)
      have hidle : step s = .next s.idle := by
        refine step_idle hp ?_
        rw [State.nextDue_of_rest hrest.1 hrest.2, s.requestDue_eq_none.2 hserved, Bool.eq_false_of_not_eq_true hwrite]
        rfl
      refine ⟨fun c => exec_ownEvent_idle hrest.1 hrest.2 hwrite, fun f fs hsending hout => ?_, fun hbusy => ?_⟩
      · rw [hidle, State.idle, if_pos ⟨by rw [hsending]; rfl, by rw [hout]; exact List.cons_ne_nil _ _⟩, Link.beginNext, hout]
        rw [← slotAfterBegin_eq]
        rfl
      · refine ⟨_, hidle, ?_⟩
        rw [State.idle, if_neg (by
          rintro ⟨hnone, hne⟩
          rcases hbusy with h | h
          · exact h (Option.isNone_iff_eq_none.1 hnone)
          · exact hne h)]
        exact ⟨BitVec.toNat_add _ _, rfl⟩

/-! ## Rounding (Rounding and saturation) -/

theorem roundNat_bounds (n : Nat) {d : Nat} (hd : 0 < d) : 2 * d * roundNat n d ≤ 2 * n + d ∧ 2 * n < 2 * d * roundNat n d + d := by
  have hdiv := Nat.div_add_mod (2 * n + d) (2 * d)
  have hmod := Nat.mod_lt (2 * n + d) (show 0 < 2 * d by omega)
  unfold roundNat
  constructor <;> omega

theorem roundNat_half {n d k : Nat} (hd : 0 < d) (h : 2 * n = (2 * k + 1) * d) : roundNat n d = k + 1 := by
  have hsum : 2 * n + d = 2 * d * (k + 1) := by rw [h]; ring
  rw [roundNat, hsum, Nat.mul_div_cancel_left _ (by omega)]

theorem roundInt_natCast (m d : Nat) : roundInt (m : Int) d = roundNat m d := by
  rw [roundInt, if_pos (Int.natCast_nonneg m), Int.toNat_natCast]

theorem roundInt_neg_natCast (m d : Nat) : roundInt (-(m : Int)) d = -(roundNat m d : Int) := by
  rcases Nat.eq_zero_or_pos m with rfl | hm
  · have hzero : roundNat 0 d = 0 := by
      rw [roundNat]
      rcases Nat.eq_zero_or_pos d with rfl | hd
      · rfl
      · exact Nat.div_eq_of_lt (by omega)
    simpa [hzero] using roundInt_natCast 0 d
  · rw [roundInt, if_neg (by omega), neg_neg, Int.toNat_natCast]

/-- The distance from a quotient to its rounding, doubled, is the divisor at most. -/
theorem roundNat_near (n : Nat) {d : Nat} (hd : 0 < d) : (2 * ((roundNat n d : Int) * d - n)).natAbs ≤ d := by
  obtain ⟨hlow, hhigh⟩ := roundNat_bounds n hd
  have hmul : (2 * d * roundNat n d : Nat) = (2 * ((roundNat n d : Int) * d) : Int) := by push_cast; ring
  omega

theorem roundInt_near (n : Int) {d : Nat} (hd : 0 < d) : (2 * (roundInt n d * d - n)).natAbs ≤ d := by
  rcases Int.eq_nat_or_neg n with ⟨m, rfl | rfl⟩
  · rw [roundInt_natCast]
    exact roundNat_near m hd
  · rw [roundInt_neg_natCast]
    have hneg : 2 * (-(roundNat m d : Int) * d - -(m : Int)) = -(2 * ((roundNat m d : Int) * d - m)) := by ring
    rw [hneg, Int.natAbs_neg]
    exact roundNat_near m hd

/-! ## Lists in tick order -/

theorem ticksSince_eq_zero {a b : Tick} (h : ticksSince a b = 0) : a = b := by
  unfold ticksSince at h
  bv_omega

theorem onsetLe_iff (a b : Tick) : onsetLe a b = true ↔ ticksSince b a < 2 ^ 31 := by
  unfold onsetLe tickBefore
  constructor
  · intro h
    simp only [Bool.or_eq_true, Bool.and_eq_true, decide_eq_true_eq] at h
    rcases h with rfl | h
    · simp [ticksSince]
    · exact h.2
  · intro h
    by_cases heq : b = a
    · simp [heq]
    · have hpos : 1 ≤ ticksSince b a := Nat.one_le_iff_ne_zero.2 fun h0 => heq (ticksSince_eq_zero h0)
      simp only [Bool.or_eq_true, Bool.and_eq_true, decide_eq_true_eq]
      exact .inr ⟨hpos, h⟩

theorem insertBy_between {α : Type} (key : α → Tick) (x : α) (before after : List α)
    (hbefore : ∀ e ∈ before, onsetLe (key e) (key x) = true) (hafter : ∀ e ∈ after, ¬ onsetLe (key e) (key x) = true) :
    insertBy key x (before ++ after) = before ++ x :: after := by
  induction before with
  | nil =>
    cases after with
    | nil => rfl
    | cons e es => rw [List.nil_append, insertBy, if_neg (hafter e (List.mem_cons_self ..))]; rfl
  | cons e es ih =>
    rw [List.cons_append, insertBy, if_pos (hbefore e (List.mem_cons_self ..)),
      ih fun e' he' => hbefore e' (List.mem_cons_of_mem _ he')]
    rfl

/-- Settles O9: the roundings by the bounds of the division, the order by `onsetLe_iff` and induction on the entries before. -/
theorem conventionsOfRoundingAndOrder : Obligations.ConventionsOfRoundingAndOrder := by
  refine ⟨fun n d hd => ⟨roundInt_near n hd, fun k hk => ?_, fun k hk => ?_, fun m => roundInt_natCast m d⟩,
    fun α key x before after hbefore hafter => ?_⟩
  · have hpos : 0 < (2 * (k : Int) + 1) * d := by positivity
    obtain ⟨m, rfl⟩ := Int.eq_ofNat_of_zero_le (show 0 ≤ n by omega)
    rw [roundInt_natCast, roundNat_half hd (k := k) (by exact_mod_cast hk)]
    push_cast
    rfl
  · have hpos : 0 < (2 * (k : Int) + 1) * d := by positivity
    obtain ⟨m, hm⟩ := Int.eq_ofNat_of_zero_le (show 0 ≤ -n by omega)
    obtain rfl : n = -(m : Int) := by omega
    have hk' : 2 * (m : Int) = (2 * (k : Int) + 1) * d := by omega
    rw [roundInt_neg_natCast, roundNat_half hd (k := k) (by exact_mod_cast hk')]
    push_cast
    rfl
  · refine insertBy_between key x before after (fun e he => (onsetLe_iff _ _).2 (hbefore e he)) fun e he hle => ?_
    exact absurd ((onsetLe_iff _ _).1 hle) (by have := hafter e he; omega)

/-! ## The stamp (R11) -/

theorem ceilNat_bounds (n : Nat) {d : Nat} (hd : 0 < d) : n ≤ ceilNat n d * d ∧ ceilNat n d * d < n + d := by
  have hdiv := Nat.div_add_mod (n + (d - 1)) d
  have hmod := Nat.mod_lt (n + (d - 1)) hd
  rw [Nat.mul_comm] at hdiv
  unfold ceilNat
  constructor <;> omega

theorem Timebase.stamp_after {tb : Timebase} {time : Tick} (h : ticksSince time tb.mark < 2 ^ 31) :
    tb.stamp time = (tb.seconds, ticksSince time tb.mark) := if_pos h

/-- Before the mark, whole seconds are counted back to the last one that is not after the tick. -/
theorem Timebase.stamp_before {tb : Timebase} {time : Tick} (h : 2 ^ 31 ≤ ticksSince time tb.mark) (hrate : 0 < tb.nRef) :
    (tb.stamp time).2 < tb.nRef ∧ ∃ k, (tb.stamp time).1 = tb.seconds - BitVec.ofNat 32 k ∧
      k * tb.nRef = ticksSince tb.mark time + (tb.stamp time).2 := by
  obtain ⟨hlow, hhigh⟩ := ceilNat_bounds (ticksSince tb.mark time) hrate
  rw [Timebase.stamp, if_neg (by omega)]
  dsimp only
  exact ⟨by omega, _, rfl, by omega⟩

/-- Settles O8: the stamp by `Timebase.stamp_after` and `Timebase.stamp_before`, the rest as the close writes it. -/
theorem recordIsStamped : Obligations.RecordIsStamped := by
  intro tb serial ln ctx tailgate timeout x xs haxles hrate r time
  have htime : (ctx.axles.head?.map fun x => x.axle.time).getD 0 = time := by rw [haxles]; rfl
  have hstamp : (r.seconds, r.subtick) = tb.stamp time := by rw [← htime]; rfl
  refine ⟨fun h => ?_, fun h => ?_, ⟨fun hnone => ?_, fun hsome => ?_⟩, rfl, rfl, rfl, rfl, rfl, rfl, rfl⟩
  · rw [Timebase.stamp_after h] at hstamp
    exact Prod.mk.inj hstamp
  · have hbefore := Timebase.stamp_before h hrate
    rwa [← hstamp] at hbefore
  · show ctx.speed.map mmToTenthKmh = none
    rw [Context.speed_eq, if_pos hnone]
    rfl
  · show ctx.speed.map mmToTenthKmh = _
    rw [Context.speed_eq, if_neg hsome]
    rfl

end Sys2Proof.Machine
end

section
/-! The channel units: a sample in every state of the detector, overlong pulses, and settings that wait (R15 to R27, R33, R34). -/

namespace Sys2Proof.Machine

section
variable {s t : State} {ch : ChannelId} {u : ChannelUnit} {x : Code} {cfg : DetectorSettings}

/-! ## Putting a unit back (R31, R74) -/

theorem State.putUnit_frame_link (s : State) (ch : ChannelId) (u : ChannelUnit) :
    s.putUnit ch u = { s.setUnit ch u with link := (s.putUnit ch u).link } := by
  unfold State.putUnit State.raiseReported
  split
  · rfl
  · split <;> rfl

theorem State.putUnit_becomes (s : State) (ch : ChannelId) (u : ChannelUnit) : UnitBecomes s (s.putUnit ch u) ch u := by
  refine ⟨s.putUnit_frame_link ch u, ?_⟩
  rw [State.putUnit_link, State.putUnit_lanes]
  simp only [eq_comm (a := (s.unit ch).service)]

/-- A unit whose service state stays is put back without a notice. -/
theorem State.putUnit_same (h : u.service = (s.unit ch).service) : s.putUnit ch u = s.setUnit ch u := if_pos h.symm

/-! ## Settings that wait (R33, R34) -/

theorem ChannelUnit.adopt_eq_settled (h : u.detector = .quiet) : u.adopt = settled u := by
  unfold ChannelUnit.adopt settled
  cases u.waiting with
  | none => rfl
  | some w =>
    cases hservice : u.service <;> cases henabled : w.settings.enabled <;>
      simp [ChannelUnit.adoptEnable, ChannelUnit.activate, ChannelUnit.disable, henabled, h]

theorem ChannelUnit.adoptIfQuiet_quiet (h : u.detector = .quiet) : u.adoptIfQuiet = settled u := by
  rw [ChannelUnit.adoptIfQuiet, if_pos h, ChannelUnit.adopt_eq_settled h]

theorem ChannelUnit.adoptIfQuiet_busy (h : u.detector ≠ .quiet) : u.adoptIfQuiet = u := if_neg h

theorem settled_waiting (u : ChannelUnit) : (settled u).waiting = none := by
  unfold settled
  split
  · assumption
  · dsimp only
    split
    · split <;> rfl
    · split <;> rfl

theorem settled_detector (u : ChannelUnit) : (settled u).detector = u.detector := by
  unfold settled
  split
  · rfl
  · dsimp only
    split
    · split <;> rfl
    · split <;> rfl

/-- Adopting leaves a FAILED unit out of service. -/
theorem settled_failed (h : u.service = .failed) : (settled u).service = .failed ∨ (settled u).service = .disabled := by
  unfold settled
  split
  · exact .inl h
  · simp only [h, reduceCtorEq, if_false]
    split
    · exact .inl rfl
    · exact .inr rfl

/-! ## A sample of a running unit (R15 to R18) -/

theorem isClipped_eq (x : Code) : isClipped x = decide (x = 0x8000#16 ∨ x = 0x7FFF#16) := by
  have hlow : x.toInt = -32768 ↔ x = 0x8000#16 := by rw [← BitVec.toInt_inj]; rfl
  have hhigh : x.toInt = 32767 ↔ x = 0x7FFF#16 := by rw [← BitVec.toInt_inj]; rfl
  rw [Bool.eq_iff_iff]
  simp [isClipped, hlow, hhigh]

theorem exec_channelSample (hdue : (s.unit ch).overdue = false) : exec (.channelSample ch x) s = .next (s.takeSample ch x) := by
  show execChannelSample ch x s = _
  rw [execChannelSample, hdue]
  rfl

theorem State.takeSample_idle (h : (s.unit ch).running = false) : s.takeSample ch x = s := by
  unfold State.takeSample
  dsimp only
  split
  · rfl
  · rw [h]
    rfl

theorem State.takeSample_runs (hrun : (s.unit ch).running = true) (hset : (s.unit ch).settings = some cfg) :
    s.takeSample ch x = (s.sampleEvent ch ((s.unit ch).take cfg ch s.tb.t x).2).putUnit ch
      ((s.unit ch).take cfg ch s.tb.t x).1.adoptIfQuiet := by
  unfold State.takeSample
  simp only [hset, hrun, if_true]

theorem ChannelUnit.take_seeding (h : u.seed = true) (cfg : DetectorSettings) (ch : ChannelId) (now : Tick) (x : Code) :
    u.take cfg ch now x = (u.seedOn x, .nothing) := by
  rw [ChannelUnit.take, if_pos h]

/-- The overlong count after a sample: an accepted pulse clears it (R22). -/
def overlongAfter (event : SampleEvent) (n : Nat) : Nat :=
  match event with
  | .accepted _ => 0
  | .spike | .nothing => n

/-- The unit after a sample that its detector has judged, with the event that gave. -/
def ChannelUnit.sampled (u : ChannelUnit) (cfg : DetectorSettings) (y e : Int) (d : Detector) (event : SampleEvent) :
    ChannelUnit :=
  { u with
    y := y, lastExcess := e, detector := d
    baseline := if u.detector = .quiet ∧ d = .quiet then trackBaseline u.baseline y cfg.m else u.baseline
    overlong := overlongAfter event u.overlong }

theorem ChannelUnit.take_sample (h : u.seed = false) {y e : Int} (hy : y = smooth u.y x cfg.k) (he : e = excessOf y u.baseline)
    {now : Tick} {d : Detector} {event : SampleEvent} (hd : detect cfg ch now e (isClipped x) u.detector = (d, event)) :
    u.take cfg ch now x = (u.sampled cfg y e d event, event) := by
  subst hy
  subst he
  rw [ChannelUnit.take, if_neg (by simp [h])]
  simp only [hd]
  cases event <;> rfl

/-- A running unit's sample by what the detector makes of it. -/
theorem State.takeSample_detected (hrun : (s.unit ch).running = true) (hset : (s.unit ch).settings = some cfg)
    (hseed : (s.unit ch).seed = false) {y e : Int} (hy : y = smooth (s.unit ch).y x cfg.k)
    (he : e = excessOf y (s.unit ch).baseline) {d : Detector} {event : SampleEvent}
    (hd : detect cfg ch s.tb.t e (isClipped x) (s.unit ch).detector = (d, event)) :
    s.takeSample ch x = (s.sampleEvent ch event).putUnit ch ((s.unit ch).sampled cfg y e d event).adoptIfQuiet := by
  rw [State.takeSample_runs hrun hset, ChannelUnit.take_sample hseed hy he hd]

/-- A sample that keeps the unit in an attempt, or in HELD, only replaces the unit. -/
theorem State.takeSample_busy (hrun : (s.unit ch).running = true) (hset : (s.unit ch).settings = some cfg)
    (hseed : (s.unit ch).seed = false) {y e : Int} (hy : y = smooth (s.unit ch).y x cfg.k)
    (he : e = excessOf y (s.unit ch).baseline) {d : Detector} (hbusy : d ≠ .quiet)
    (hd : detect cfg ch s.tb.t e (isClipped x) (s.unit ch).detector = (d, .nothing)) :
    s.takeSample ch x = s.setUnit ch { s.unit ch with y := y, lastExcess := e, detector := d } := by
  have hsampled : (s.unit ch).sampled cfg y e d .nothing = { s.unit ch with y := y, lastExcess := e, detector := d } := by
    rw [ChannelUnit.sampled, if_neg fun h => hbusy h.2]
    rfl
  rw [State.takeSample_detected hrun hset hseed hy he hd, hsampled, ChannelUnit.adoptIfQuiet_busy hbusy]
  exact State.putUnit_same (s := s) rfl

/-- A sample that ends an attempt, or HELD, passes its event on, and the unit adopts what waits. -/
theorem State.takeSample_ended (hrun : (s.unit ch).running = true) (hset : (s.unit ch).settings = some cfg)
    (hseed : (s.unit ch).seed = false) {y e : Int} (hy : y = smooth (s.unit ch).y x cfg.k)
    (he : e = excessOf y (s.unit ch).baseline) (hbusy : (s.unit ch).detector ≠ .quiet) {event : SampleEvent}
    (hd : detect cfg ch s.tb.t e (isClipped x) (s.unit ch).detector = (.quiet, event)) :
    UnitBecomes (s.sampleEvent ch event) (s.takeSample ch x) ch (settled { s.unit ch with
      y := y, lastExcess := e, detector := .quiet
      overlong := overlongAfter event (s.unit ch).overlong }) := by
  have hsampled : (s.unit ch).sampled cfg y e .quiet event = { s.unit ch with
      y := y, lastExcess := e, detector := .quiet
      overlong := overlongAfter event (s.unit ch).overlong } := by
    rw [ChannelUnit.sampled, if_neg fun h => hbusy h.1]
  rw [State.takeSample_detected hrun hset hseed hy he hd, hsampled, ChannelUnit.adoptIfQuiet_quiet rfl]
  exact State.putUnit_becomes _ _ _

end

/-- Settles O10: by whether the unit runs, seeds, and rises above Th_on. -/
theorem sampleOutsideAnAttempt : Obligations.SampleOutsideAnAttempt := by
  intro s ch x hquiet u
  have hdue : u.overdue = false := by rw [ChannelUnit.overdue, hquiet]
  refine ⟨fun hidle => ?_, fun cfg hrun hset => ⟨fun hseed => ?_, fun hseed => ?_⟩⟩
  · rw [exec_channelSample hdue, State.takeSample_idle hidle]
  · refine ⟨_, exec_channelSample hdue, ?_⟩
    have hseeded : u.seedOn x = { u with y := x.toInt, baseline := 256 * x.toInt, seed := false, lastExcess := 0 } := by
      rw [ChannelUnit.seedOn, ← hquiet]
    rw [State.takeSample_runs hrun hset, ChannelUnit.take_seeding hseed, ← hseeded, ChannelUnit.adoptIfQuiet_quiet rfl]
    exact State.putUnit_becomes _ _ _
  · intro y e a
    refine ⟨fun hlow => ⟨_, exec_channelSample hdue, ?_⟩, fun hhigh => ?_⟩
    · have hd : detect cfg ch s.tb.t e (isClipped x) u.detector = (.quiet, .nothing) := by
        rw [hquiet, detect, if_neg (by omega)]
      have hsampled : u.sampled cfg y e .quiet .nothing = { u with
          y := y, baseline := u.baseline + roundInt (256 * y - u.baseline) (2 ^ cfg.m), lastExcess := e } := by
        rw [ChannelUnit.sampled, if_pos ⟨hquiet, rfl⟩, ← hquiet]
        rfl
      rw [State.takeSample_detected (y := y) (e := e) hrun hset hseed rfl rfl hd, ChannelUnit.adoptIfQuiet_quiet rfl, hsampled]
      exact State.putUnit_becomes _ _ _
    · have hd : detect cfg ch s.tb.t e (isClipped x) u.detector = (if cfg.cOn ≤ 1 then .pulse a 0 false else .onset a 1, .nothing) := by
        rw [hquiet, detect, if_pos hhigh, isClipped_eq]
        split <;> rfl
      rw [exec_channelSample hdue, State.takeSample_busy (y := y) (e := e) hrun hset hseed rfl rfl ?_ hd]
      split <;> exact fun h => Detector.noConfusion h

/-! ## A sample in an attempt, or in HELD (R20 to R25) -/

section
variable {s : State} {ch : ChannelId} {x : Code} {cfg : DetectorSettings} {e : Int} {a : Attempt} {now : Tick} {clipped : Bool}

theorem nextBelow_eq (cfg : DetectorSettings) (below : Nat) (e : Int) :
    nextBelow cfg below e = if e ≤ cfg.thOff then below + 1 else 0 := rfl

theorem detect_onset_stays {above : Nat} (hhigh : cfg.thOn < e) (hmore : above + 1 < cfg.cOn) :
    detect cfg ch now e clipped (.onset a above) = (.onset (a.accumulate e clipped) (above + 1), .nothing) := by
  rw [detect, if_pos hhigh, if_neg (by omega)]

theorem detect_onset_rises {above : Nat} (hhigh : cfg.thOn < e) (hfull : cfg.cOn ≤ above + 1) :
    detect cfg ch now e clipped (.onset a above) = (.pulse (a.accumulate e clipped) 0 false, .nothing) := by
  rw [detect, if_pos hhigh, if_pos hfull]

theorem detect_onset_falls {above : Nat} (hlow : e ≤ cfg.thOn) :
    detect cfg ch now e clipped (.onset a above) = (.quiet, .spike) := by
  rw [detect, if_neg (by omega)]

theorem detect_pulse_stays {below : Nat} {overdue : Bool} (hmore : nextBelow cfg below e < cfg.cOff) :
    detect cfg ch now e clipped (.pulse a below overdue) =
      (.pulse (a.accumulate e clipped) (nextBelow cfg below e) (decide (cfg.wMax ≤ ticksSince now a.onset)), .nothing) := by
  rw [detect]
  exact if_neg (by omega)

theorem detect_pulse_ends {below : Nat} {overdue : Bool} (hfull : cfg.cOff ≤ nextBelow cfg below e) :
    detect cfg ch now e clipped (.pulse a below overdue) =
      (.quiet, if ((a.accumulate e clipped).report ch now cfg.cOff).width < cfg.wMin then .spike
        else .accepted ((a.accumulate e clipped).report ch now cfg.cOff)) := by
  rw [detect]
  exact if_pos hfull

theorem detect_held_stays {below : Nat} (hmore : nextBelow cfg below e < cfg.cOff) :
    detect cfg ch now e clipped (.held below) = (.held (nextBelow cfg below e), .nothing) := by
  rw [detect]
  exact if_neg (by omega)

theorem detect_held_ends {below : Nat} (hfull : cfg.cOff ≤ nextBelow cfg below e) :
    detect cfg ch now e clipped (.held below) = (.quiet, .nothing) := by
  rw [detect]
  exact if_pos hfull

theorem State.sampleEvent_accepted (s : State) {ch : ChannelId} {r : PulseReport} (h : r.channel = ch) :
    s.sampleEvent ch (.accepted r) = if (s.asm ch.lane).service = .out then s
      else { s with mail := { s.mail with reports := s.mail.reports ++ [r] } } := by
  subst h
  unfold State.sampleEvent State.sendReport
  cases hservice : (s.asm r.channel.lane).service <;> simp [hservice]

end

/-- Settles O11: by the detector's state and where the sample takes it, each case a transition of `detect`. -/
theorem sampleInAnAttempt : Obligations.SampleInAnAttempt := by
  intro s ch x cfg hrun hset hseed u y e taken low after lane spiked
  have htaken : ∀ a, taken a = a.accumulate e (isClipped x) := fun a => by rw [isClipped_eq]; rfl
  refine ⟨fun a above hd => ?_, fun a below hd => ?_, fun below hd => ?_⟩
  · have hbusy : u.detector ≠ .quiet := by rw [hd]; exact Detector.noConfusion
    have hdue : u.overdue = false := by rw [ChannelUnit.overdue, hd]
    rw [exec_channelSample hdue, htaken]
    refine ⟨fun hhigh hmore => ?_, fun hhigh hfull => ?_, fun hlow => ⟨_, rfl, ?_⟩⟩
    · rw [State.takeSample_busy (y := y) (e := e) hrun hset hseed rfl rfl Detector.noConfusion
        (by rw [hd]; exact detect_onset_stays hhigh hmore)]
    · rw [State.takeSample_busy (y := y) (e := e) hrun hset hseed rfl rfl Detector.noConfusion
        (by rw [hd]; exact detect_onset_rises hhigh hfull)]
    · exact State.takeSample_ended (y := y) (e := e) hrun hset hseed rfl rfl hbusy (by rw [hd]; exact detect_onset_falls hlow)
  · intro ended report sent
    have hbusy : u.detector ≠ .quiet := by rw [hd]; exact Detector.noConfusion
    have hdue : u.overdue = false := by rw [ChannelUnit.overdue, hd]
    have hreport : (a.accumulate e (isClipped x)).report ch s.tb.t cfg.cOff = report := by rw [← htaken]; rfl
    rw [exec_channelSample hdue, htaken]
    refine ⟨fun hmore => ?_, fun hfull hnarrow => ⟨_, rfl, ?_⟩, fun hfull hwide => ⟨_, rfl, ?_⟩⟩
    · rw [State.takeSample_busy (y := y) (e := e) hrun hset hseed rfl rfl Detector.noConfusion
        (by rw [hd]; exact detect_pulse_stays hmore)]
      rfl
    · refine State.takeSample_ended (y := y) (e := e) (event := .spike) hrun hset hseed rfl rfl hbusy ?_
      rw [hd, detect_pulse_ends hfull, hreport, if_pos hnarrow]
    · have hsent : s.sampleEvent ch (.accepted report) = sent := State.sampleEvent_accepted s rfl
      rw [← hsent]
      refine State.takeSample_ended (y := y) (e := e) (event := .accepted report) hrun hset hseed rfl rfl hbusy ?_
      rw [hd, detect_pulse_ends hfull, hreport, if_neg (by omega)]
  · have hbusy : u.detector ≠ .quiet := by rw [hd]; exact Detector.noConfusion
    have hdue : u.overdue = false := by rw [ChannelUnit.overdue, hd]
    rw [exec_channelSample hdue]
    refine ⟨fun hmore => ?_, fun hfull => ⟨_, rfl, ?_⟩⟩
    · rw [State.takeSample_busy (y := y) (e := e) hrun hset hseed rfl rfl Detector.noConfusion
        (by rw [hd]; exact detect_held_stays hmore)]
      rfl
    · exact State.takeSample_ended (y := y) (e := e) hrun hset hseed rfl rfl hbusy (by rw [hd]; exact detect_held_ends hfull)

/-! ## Overlong pulses (R24, R27) -/

section
variable {s : State} {ch : ChannelId} {u : ChannelUnit}

theorem ChannelUnit.overdue_busy (h : u.detector = .quiet) : u.overdue = false := by rw [ChannelUnit.overdue, h]

theorem ChannelUnit.running_iff (u : ChannelUnit) : u.running = true ↔ u.service = .active ∨ u.service = .suspect := by
  unfold ChannelUnit.running
  cases u.service <;> simp

theorem exec_pulseOverlong_due (h : (s.unit ch).overdue = true) : exec (.pulseOverlong ch) s = .next (s.takeOverlong ch) := by
  show execPulseOverlong ch s = _
  rw [execPulseOverlong, if_pos h]

theorem exec_pulseOverlong_idle (h : (s.unit ch).overdue = false) : exec (.pulseOverlong ch) s = .next s := by
  show execPulseOverlong ch s = _
  rw [execPulseOverlong, h]
  rfl

/-- The first overlong pulse puts the unit in HELD. -/
theorem ChannelUnit.overlongPulse_first (h : u.overlong = 0) :
    u.overlongPulse.adoptIfQuiet = { u with detector := .held 0, overlong := 1 } := by
  have hheld : u.overlongPulse = { u with detector := .held 0, overlong := 1 } := by
    unfold ChannelUnit.overlongPulse
    rw [h]
    rfl
  rw [hheld, ChannelUnit.adoptIfQuiet_busy Detector.noConfusion]

/-- The second fails it, and it adopts what waits. -/
theorem ChannelUnit.overlongPulse_second (h : 1 ≤ u.overlong) : u.overlongPulse.adoptIfQuiet =
    settled { u with service := .failed, detector := .quiet, overlong := 2, lastExcess := 0 } := by
  have hfailed : u.overlongPulse = { u with service := .failed, detector := .quiet, overlong := 2, lastExcess := 0 } := by
    have hcount : min 2 (u.overlong + 1) = 2 := by omega
    unfold ChannelUnit.overlongPulse
    rw [hcount]
    rfl
  rw [hfailed, ChannelUnit.adoptIfQuiet_quiet rfl]

theorem State.takeOverlong_first (h : (s.unit ch).overlong = 0) :
    s.takeOverlong ch = (s.setUnit ch { s.unit ch with detector := .held 0, overlong := 1 }).raiseChannel ch := by
  unfold State.takeOverlong
  rw [ChannelUnit.overlongPulse_first h]
  exact if_pos rfl

theorem State.takeOverlong_second (h : 1 ≤ (s.unit ch).overlong) (hrun : (s.unit ch).running = true) :
    s.takeOverlong ch = s.putUnit ch
      (settled { s.unit ch with service := .failed, detector := .quiet, overlong := 2, lastExcess := 0 }) := by
  unfold State.takeOverlong
  rw [ChannelUnit.overlongPulse_second h]
  refine if_neg fun hsame => ?_
  have hservice := settled_failed (u := { s.unit ch with service := .failed, detector := .quiet, overlong := 2, lastExcess := 0 }) rfl
  rw [hsame] at hservice
  rcases (ChannelUnit.running_iff _).1 hrun with hs | hs <;> simp [hs] at hservice

/-- The unit after its overdue pulse has been taken. -/
theorem State.takeOverlong_unit (s : State) (ch : ChannelId) :
    (s.takeOverlong ch).unit ch = (s.unit ch).overlongPulse.adoptIfQuiet := by
  unfold State.takeOverlong
  dsimp only
  split
  · exact State.unit_setUnit s ch _
  · exact State.putUnit_unit s ch _

/-- Nothing is overdue any longer. -/
theorem State.takeOverlong_overdue (s : State) (ch : ChannelId) : ((s.takeOverlong ch).unit ch).overdue = false := by
  rw [State.takeOverlong_unit]
  rcases Nat.eq_zero_or_pos (s.unit ch).overlong with h | h
  · rw [ChannelUnit.overlongPulse_first h]
    rfl
  · rw [ChannelUnit.overlongPulse_second h]
    exact ChannelUnit.overdue_busy (settled_detector _)

end

/-- Settles O12: the first overlong by `State.takeOverlong_first`, the second by `State.takeOverlong_second`. -/
theorem overlongPulseHoldsThenFails : Obligations.OverlongPulseHoldsThenFails := by
  intro s ch u
  refine ⟨fun hdue hfirst => ?_, fun hdue hsecond hrun => ⟨_, exec_pulseOverlong_due hdue, ?_⟩,
    fun hidle => exec_pulseOverlong_idle hidle, fun hdue x => ⟨_, exec_pulseOverlong_due hdue, ?_⟩⟩
  · rw [exec_pulseOverlong_due hdue, State.takeOverlong_first hfirst]
    rfl
  · rw [State.takeOverlong_second (Nat.le_of_eq hsecond.symm) hrun]
    exact State.putUnit_becomes _ _ _
  · rw [exec_channelSample (s.takeOverlong_overdue ch)]
    show execChannelSample ch x s = _
    rw [execChannelSample, if_pos hdue]

/-! ## Settings that wait -/

section
variable {s : State} {ch : ChannelId}

theorem ChannelUnit.adoptsAtOnce_iff (u : ChannelUnit) :
    u.adoptsAtOnce = true ↔ u.detector = .quiet ∧ ∃ w, u.waiting = some w ∧ w.atOnce = true := by
  simp [ChannelUnit.adoptsAtOnce, Option.any_eq_true]

theorem exec_channelSettingsWaiting_due (h : (s.unit ch).adoptsAtOnce = true) :
    exec (.channelSettingsWaiting ch) s = .next (s.putUnit ch (s.unit ch).adopt) := by
  show execChannelSettingsWaiting ch s = _
  rw [execChannelSettingsWaiting, if_pos h]

theorem exec_channelSettingsWaiting_idle (h : ¬ (s.unit ch).adoptsAtOnce = true) :
    exec (.channelSettingsWaiting ch) s = .next s := by
  show execChannelSettingsWaiting ch s = _
  rw [execChannelSettingsWaiting, if_neg h]

/-- A unit that a sample leaves QUIET has nothing waiting. -/
theorem ChannelUnit.adoptIfQuiet_waiting {u : ChannelUnit} (h : u.adoptIfQuiet.detector = .quiet) :
    u.adoptIfQuiet.waiting = none := by
  by_cases hquiet : u.detector = .quiet
  · rw [ChannelUnit.adoptIfQuiet_quiet hquiet]
    exact settled_waiting u
  · rw [ChannelUnit.adoptIfQuiet_busy hquiet] at h
    exact absurd h hquiet

theorem State.takeSample_waiting (hset : (s.unit ch).settings.isSome = true) (hrun : (s.unit ch).running = true) (x : Code)
    (hquiet : ((s.takeSample ch x).unit ch).detector = .quiet) : ((s.takeSample ch x).unit ch).waiting = none := by
  obtain ⟨cfg, hcfg⟩ := Option.isSome_iff_exists.1 hset
  rw [State.takeSample_runs hrun hcfg, State.putUnit_unit] at hquiet ⊢
  exact ChannelUnit.adoptIfQuiet_waiting hquiet

end

/-- Settles O13: at once by the condition of `adoptsAtOnce`; on a sample by `State.takeSample_waiting`, an overdue pulse taken
before it leaving the unit in HELD, or not running. -/
theorem waitingSettingsAdopted : Obligations.WaitingSettingsAdopted := by
  intro s ch u
  refine ⟨fun w hquiet hw honce => ⟨_, exec_channelSettingsWaiting_due (u.adoptsAtOnce_iff.2 ⟨hquiet, w, hw, honce⟩), ?_⟩,
    fun hleft => exec_channelSettingsWaiting_idle fun hdue => ?_, fun x t hrun hset hexec hrunning hquiet => ?_⟩
  · rw [ChannelUnit.adopt_eq_settled hquiet]
    exact State.putUnit_becomes _ _ _
  · obtain ⟨hquiet, w, hw, honce⟩ := u.adoptsAtOnce_iff.1 hdue
    rcases hleft with hbusy | hlater
    · exact hbusy hquiet
    · rw [hlater w hw] at honce
      cases honce
  · injection hexec with hexec
    subst hexec
    by_cases hdue : (s.unit ch).overdue = true
    · rw [if_pos hdue] at hrunning hquiet ⊢
      have hunit := s.takeOverlong_unit ch
      rcases Nat.eq_zero_or_pos (s.unit ch).overlong with hfirst | hsecond
      · rw [ChannelUnit.overlongPulse_first hfirst] at hunit
        exact State.takeSample_waiting (by rw [hunit]; exact hset) (by rw [hunit]; exact hrun) x hquiet
      · rw [ChannelUnit.overlongPulse_second hsecond] at hunit
        have hstopped : ((s.takeOverlong ch).unit ch).running = false := by
          rw [hunit]
          unfold ChannelUnit.running
          rcases settled_failed (u := { s.unit ch with service := .failed, detector := .quiet, overlong := 2, lastExcess := 0 }) rfl
            with h | h <;> rw [h]
        rw [State.takeSample_idle hstopped, hstopped] at hrunning
        cases hrunning
    · rw [if_neg hdue] at hquiet ⊢
      exact State.takeSample_waiting hset hrun x hquiet

end Sys2Proof.Machine
end

section
/-! The four units of a lane put back one after another, with the notices that raises, and the supervision of the channels
(R28, R29, R31, R74). -/

namespace Sys2Proof.Machine

section
variable {s t : State} {ln : LaneId}

/-! ## Putting the units of a lane back -/

/-- The units of a lane put back one after another, each changed by a function of its own. -/
def State.putLane (s : State) (ln : LaneId) (f : ChannelId → ChannelUnit → ChannelUnit) : State :=
  fours.foldl (fun s p => s.putUnit ⟨ln, p⟩ (f ⟨ln, p⟩ (s.unit ⟨ln, p⟩))) s

/-- The notices of one channel's change, as `unitNotices` has them. -/
def channelNotices (s t : State) (l : Link) (ch : ChannelId) : Link :=
  if (t.unit ch).service = (s.unit ch).service then l
  else if (laneUpTo s t ch.lane (ch.strip.val + 1)).reported = (laneUpTo s t ch.lane ch.strip.val).reported then
    l.raised (channelChange ch)
  else (l.raised (channelChange ch)).raised (laneChange ch.lane)

theorem unitNotices_eq (s t : State) (channels : List ChannelId) :
    unitNotices s t channels = channels.foldl (channelNotices s t) s.link := rfl

/-- No unit put back yet. -/
theorem laneUpTo_none (s t : State) (ln : LaneId) : laneUpTo s t ln 0 = s.lanes.get ln := rfl

theorem laneUpTo_units (s t : State) (ln : LaneId) (n : Nat) (p : Strip) :
    (laneUpTo s t ln n).units.get p = if p.val < n then t.unit ⟨ln, p⟩ else s.unit ⟨ln, p⟩ := by
  match p with
  | 0 => rfl
  | 1 => rfl
  | 2 => rfl
  | 3 => rfl

/-- One unit more put back. -/
theorem laneUpTo_succ (s t : State) (ln : LaneId) (p : Strip) : laneUpTo s t ln (p.val + 1) =
    { laneUpTo s t ln p.val with units := (laneUpTo s t ln p.val).units.set p (t.unit ⟨ln, p⟩) } := by
  have hunits : (laneUpTo s t ln (p.val + 1)).units = (laneUpTo s t ln p.val).units.set p (t.unit ⟨ln, p⟩) := by
    refine Four.ext_get fun q => ?_
    rw [Four.get_set, laneUpTo_units, laneUpTo_units]
    by_cases hq : q = p
    · subst hq
      simp
    · have hval : q.val ≠ p.val := fun h => hq (Fin.ext h)
      rw [if_neg hq]
      congr 1
      simp only [eq_iff_iff]
      omega
  rw [← hunits]
  rfl

/-- With the lane as it stands after the strips before p, putting back unit p gives the lane after p and p's notices. -/
theorem State.putUnit_upTo {u : State} {p : Strip} (hlane : u.lanes.get ln = laneUpTo s t ln p.val) :
    (u.putUnit ⟨ln, p⟩ (t.unit ⟨ln, p⟩)).lanes.get ln = laneUpTo s t ln (p.val + 1) ∧
      (u.putUnit ⟨ln, p⟩ (t.unit ⟨ln, p⟩)).link = channelNotices s t u.link ⟨ln, p⟩ := by
  have hset : (u.setUnit ⟨ln, p⟩ (t.unit ⟨ln, p⟩)).lanes.get ln = laneUpTo s t ln (p.val + 1) := by
    rw [State.setUnit, State.setLane, Four.get_set_same, hlane, laneUpTo_succ]
  have hunit : u.unit ⟨ln, p⟩ = s.unit ⟨ln, p⟩ := by
    rw [State.unit, hlane, laneUpTo_units, if_neg (Nat.lt_irrefl _)]
  constructor
  · rw [State.putUnit_lanes, hset]
  · rw [State.putUnit_link, hset, hlane, hunit, channelNotices]
    simp only [eq_comm (a := (s.unit ⟨ln, p⟩).service)]

/-- The lane and the link after the units of a lane have been put back, when t's are what they become. -/
theorem State.putLane_upTo {u : State} {f : ChannelId → ChannelUnit → ChannelUnit} (hlane : u.lanes.get ln = s.lanes.get ln)
    (ht : ∀ p, t.unit ⟨ln, p⟩ = f ⟨ln, p⟩ (s.unit ⟨ln, p⟩)) :
    (u.putLane ln f).lanes.get ln = laneUpTo s t ln 4 ∧
      (u.putLane ln f).link = (fours.map fun p => ⟨ln, p⟩).foldl (channelNotices s t) u.link := by
  have hstep : ∀ (v : State) (p : Strip), v.lanes.get ln = laneUpTo s t ln p.val →
      f ⟨ln, p⟩ (v.unit ⟨ln, p⟩) = t.unit ⟨ln, p⟩ := fun v p hv => by
    rw [ht, State.unit, hv, laneUpTo_units, if_neg (Nat.lt_irrefl _)]
  have h0 : u.lanes.get ln = laneUpTo s t ln 0 := hlane
  obtain ⟨h1, hl1⟩ := State.putUnit_upTo (p := 0) h0
  obtain ⟨h2, hl2⟩ := State.putUnit_upTo (p := 1) h1
  obtain ⟨h3, hl3⟩ := State.putUnit_upTo (p := 2) h2
  obtain ⟨h4, hl4⟩ := State.putUnit_upTo (p := 3) h3
  have hput : u.putLane ln f = (((u.putUnit ⟨ln, 0⟩ (t.unit ⟨ln, 0⟩)).putUnit ⟨ln, 1⟩ (t.unit ⟨ln, 1⟩)).putUnit ⟨ln, 2⟩
      (t.unit ⟨ln, 2⟩)).putUnit ⟨ln, 3⟩ (t.unit ⟨ln, 3⟩) := by
    simp only [State.putLane, fours, List.foldl_cons, List.foldl_nil]
    rw [hstep _ 0 h0, hstep _ 1 h1, hstep _ 2 h2, hstep _ 3 h3]
  rw [hput]
  exact ⟨h4, by rw [hl4, hl3, hl2, hl1]; rfl⟩

theorem State.putUnit_lane_ne (s : State) {ch : ChannelId} (u : ChannelUnit) {k : LaneId} (h : k ≠ ch.lane) :
    (s.putUnit ch u).lanes.get k = s.lanes.get k := by
  rw [State.putUnit_lanes, State.setUnit, State.setLane, Four.get_set_ne _ _ h]

theorem State.putLane_lane_ne (s : State) (f : ChannelId → ChannelUnit → ChannelUnit) {k : LaneId} (h : k ≠ ln) :
    (s.putLane ln f).lanes.get k = s.lanes.get k := by
  have hput : ∀ (u : State) (p : Strip) (x : ChannelUnit), (u.putUnit ⟨ln, p⟩ x).lanes.get k = u.lanes.get k :=
    fun u p x => State.putUnit_lane_ne (ch := ⟨ln, p⟩) u x h
  simp only [State.putLane, fours, List.foldl_cons, List.foldl_nil, hput]

/-- Only the lanes and the link are reached. -/
theorem State.putUnit_only (s : State) (ch : ChannelId) (u : ChannelUnit) :
    s.putUnit ch u = { s with lanes := (s.putUnit ch u).lanes, link := (s.putUnit ch u).link } := by
  rw [State.putUnit_frame_link]
  rfl

theorem State.putLane_only (s : State) (ln : LaneId) (f : ChannelId → ChannelUnit → ChannelUnit) :
    s.putLane ln f = { s with lanes := (s.putLane ln f).lanes, link := (s.putLane ln f).link } := by
  unfold State.putLane
  generalize fours = strips
  induction strips generalizing s with
  | nil => rfl
  | cons p rest ih =>
    rw [List.foldl_cons, ih, State.putUnit_only]

theorem State.putLane_unit (s : State) (ln : LaneId) (f : ChannelId → ChannelUnit → ChannelUnit) (p : Strip) :
    (s.putLane ln f).unit ⟨ln, p⟩ = f ⟨ln, p⟩ (s.unit ⟨ln, p⟩) := by
  simp only [State.putLane, fours, List.foldl_cons, List.foldl_nil]
  match p with
  | 0 => simp [State.putUnit_unit_ne]
  | 1 => simp [State.putUnit_unit_ne]
  | 2 => simp [State.putUnit_unit_ne]
  | 3 => simp [State.putUnit_unit_ne]

theorem State.putLane_unit_ne (s : State) (f : ChannelId → ChannelUnit → ChannelUnit) {ch : ChannelId} (h : ch.lane ≠ ln) :
    (s.putLane ln f).unit ch = s.unit ch := by
  rw [State.unit, State.putLane_lane_ne s f h]
  rfl

theorem State.putLane_matcher (s : State) (ln : LaneId) (f : ChannelId → ChannelUnit → ChannelUnit) (k : LaneId) :
    (s.putLane ln f).matcher k = s.matcher k := by
  simp only [State.putLane, fours, List.foldl_cons, List.foldl_nil, State.putUnit_matcher]

theorem State.putLane_asm (s : State) (ln : LaneId) (f : ChannelId → ChannelUnit → ChannelUnit) (k : LaneId) :
    (s.putLane ln f).asm k = s.asm k := by
  simp only [State.putLane, fours, List.foldl_cons, List.foldl_nil, State.putUnit_asm]

/-- Units as they were raise nothing. -/
theorem unitNotices_same (h : ∀ ch, t.unit ch = s.unit ch) (channels : List ChannelId) : unitNotices s t channels = s.link := by
  rw [unitNotices_eq]
  induction channels with
  | nil => rfl
  | cons ch rest ih => rw [List.foldl_cons, channelNotices, if_pos (by rw [h]), ih]

/-! ## Supervision (R28, R29) -/

theorem Supervision.supervised_iff (v : Supervision) :
    v.supervised = true ↔ ¬ (v.contributed.length < 2 ∨ v.quality = .straddle) := by
  simp only [Supervision.supervised, Bool.and_eq_true, decide_eq_true_eq, not_or, Nat.not_lt]

theorem State.supervise_lane {v : Supervision} (h : v.supervised = true) :
    s.supervise v = s.putLane v.lane fun ch u => u.judge v ch := if_pos h

theorem State.supervise_none {v : Supervision} (h : ¬ v.supervised = true) : s.supervise v = s := if_neg h

theorem ChannelUnit.missOne_eq (u : ChannelUnit) : u.missOne =
    if 31 ≤ u.miss then { u with miss := 32, service := .failed, detector := .quiet, lastExcess := 0 }
    else if u.miss = 7 ∧ u.service = .active then { u with miss := 8, service := .suspect }
    else { u with miss := u.miss + 1 } := by
  unfold ChannelUnit.missOne Config.missFailed Config.missSuspect
  by_cases hlast : 31 ≤ u.miss
  · have hcount : min 32 (u.miss + 1) = 32 := by omega
    rw [if_pos hlast, hcount]
    rfl
  · have hcount : min 32 (u.miss + 1) = u.miss + 1 := by omega
    rw [if_neg hlast, hcount]
    dsimp only
    rw [if_neg (by omega)]
    by_cases hsuspect : u.miss = 7 ∧ u.service = .active
    · rw [if_pos ⟨by omega, hsuspect.2⟩, if_pos hsuspect, hsuspect.1]
    · rw [if_neg fun h => hsuspect ⟨by omega, h.2⟩, if_neg hsuspect]

theorem ChannelUnit.contribute_eq {u : ChannelUnit} (h : u.running = true) : u.contribute = { u with miss := 0, service := .active } := by
  unfold ChannelUnit.contribute
  rcases (ChannelUnit.running_iff u).1 h with hs | hs <;> rw [hs] <;> rfl

theorem ChannelUnit.judge_eq (u : ChannelUnit) (v : Supervision) (ch : ChannelId) : u.judge v ch =
    if u.running = false then u
    else if 0 < v.axlesOf ch then { u with miss := 0, service := .active }
    else if v.axlesOf ⟨ch.lane, partnerStrip ch.strip⟩ < 2 then u
    else if 31 ≤ u.miss then { u with miss := 32, service := .failed, detector := .quiet, lastExcess := 0 }
    else if u.miss = 7 ∧ u.service = .active then { u with miss := 8, service := .suspect }
    else { u with miss := u.miss + 1 } := by
  unfold ChannelUnit.judge
  cases hrun : u.running with
  | false => rfl
  | true =>
    simp only [Bool.not_true, Bool.false_eq_true, reduceCtorEq, if_false]
    by_cases hown : 0 < v.axlesOf ch
    · rw [if_pos hown, if_pos hown, ChannelUnit.contribute_eq hrun]
    · rw [if_neg hown, if_neg hown]
      by_cases hothers : v.axlesOf ⟨ch.lane, partnerStrip ch.strip⟩ < 2
      · rw [if_neg (by omega), if_pos hothers]
      · rw [if_pos (by omega), if_neg hothers, ChannelUnit.missOne_eq]

theorem partnerStrip_eq (p : Strip) : partnerStrip p = match p with | 0 => 1 | 1 => 0 | 2 => 3 | 3 => 2 := by
  revert p
  decide

theorem exec_channelSupervision {v : Supervision} {rest : List Supervision} (h : s.mail.toUnits = v :: rest) :
    exec .channelSupervision s = .next (State.supervise { s with mail := { s.mail with toUnits := rest } } v) := by
  show execChannelSupervision s = _
  rw [execChannelSupervision, h]

end

/-- Settles O14: the four units of a supervised vehicle's lane are put back by `State.putLane`, each judged by
`ChannelUnit.judge_eq`; any other vehicle changes none. -/
theorem supervisionJudgesUnits : Obligations.SupervisionJudgesUnits := by
  intro s v rest hmail
  refine ⟨_, exec_channelSupervision hmail, ?_⟩
  by_cases hsup : v.supervised = true
  · have hnot := v.supervised_iff.1 hsup
    rw [State.supervise_lane hsup]
    generalize htaken : ({ s with mail := { s.mail with toUnits := rest } } : State) = u
    have hlane : u.lanes = s.lanes := by rw [← htaken]
    have hunit : ∀ ch, u.unit ch = s.unit ch := fun ch => by rw [State.unit, hlane]; rfl
    have hput : ∀ p, (u.putLane v.lane fun ch x => x.judge v ch).unit ⟨v.lane, p⟩ = (s.unit ⟨v.lane, p⟩).judge v ⟨v.lane, p⟩ :=
      fun p => by rw [State.putLane_unit, hunit]
    refine ⟨?_, fun ln => ⟨?_, ?_⟩, fun ch hch => ?_, ?_, fun p => ?_⟩
    · rw [State.putLane_only, ← htaken]
    · rw [State.putLane_matcher, State.matcher, hlane]; rfl
    · rw [State.putLane_asm, State.asm, hlane]; rfl
    · rw [State.putLane_unit_ne u _ hch, hunit]
    · rw [(State.putLane_upTo (by rw [hlane]) hput).2, unitNotices_eq, ← htaken]
    · dsimp only
      rw [hput, ChannelUnit.judge_eq, partnerStrip_eq]
      have hcond : (v.contributed.length < 2 ∨ v.quality = .straddle ∨ (s.unit ⟨v.lane, p⟩).running = false) ↔
          (s.unit ⟨v.lane, p⟩).running = false := by tauto
      simp only [hcond, Supervision.axlesOf]
      rfl
  · have hmeets : v.contributed.length < 2 ∨ v.quality = .straddle := by
      rw [v.supervised_iff] at hsup
      exact not_not.1 hsup
    rw [State.supervise_none hsup]
    refine ⟨rfl, fun _ => ⟨rfl, rfl⟩, fun _ _ => rfl, (unitNotices_same (fun _ => rfl) _).symm, fun p => ?_⟩
    dsimp only
    rw [if_pos (by tauto)]
    rfl

end Sys2Proof.Machine
end

section
/-! The Temperature Unit: the selection, the gates and the settings of a commit, and the requests that restore a channel or a
probe (R30, R57 to R60, R67, R68, R71). -/

namespace Sys2Proof.Machine

section
variable {s t : State} {u v w : TempUnit}

/-! ## The selection (R68) -/

theorem fours_find {p : Fin 4} {f : Fin 4 → Bool} (hp : f p = true) (hbefore : ∀ q < p, ¬ f q = true) :
    fours.find? f = some p := by
  match p with
  | 0 => simp [fours, hp]
  | 1 => simp [fours, hp, hbefore 0 (by decide)]
  | 2 => simp [fours, hp, hbefore 0 (by decide), hbefore 1 (by decide)]
  | 3 => simp [fours, hp, hbefore 0 (by decide), hbefore 1 (by decide), hbefore 2 (by decide)]

theorem fours_find_none {f : Fin 4 → Bool} (h : ∀ q, ¬ f q = true) : fours.find? f = none :=
  List.find?_eq_none.2 fun q _ => h q

theorem TempUnit.serving_eq (u : TempUnit) (r : Role) :
    u.serving r = (fours.find? fun p => (u.probes.get p).role = r && (u.probes.get p).usable).map u.probes.get := by
  have hlist : u.probes.toList = fours.map u.probes.get := rfl
  rw [TempUnit.serving, hlist, List.find?_map]
  rfl

theorem Probe.usable_iff (p : Probe) : p.usable = true ↔ p.state = .good ∨ p.state = .suspect := by
  unfold Probe.usable
  cases p.state <;> simp

/-- The selection, T_w and the held mark that a re-evaluation gives are those of the rule. -/
theorem TempUnit.reselect_reselected (htw : u.tw = v.tw) : Reselected v u.reselect := by
  have hserves : ∀ (r : Role) (p : ProbeId), ((u.reselect.probes.get p).role = r ∧
      ((u.reselect.probes.get p).state = .good ∨ (u.reselect.probes.get p).state = .suspect)) ↔
      ((u.probes.get p).role = r && (u.probes.get p).usable) = true := fun r p => by
    rw [Bool.and_eq_true, decide_eq_true_eq, Probe.usable_iff]
    rfl
  have hfirst : ∀ (r : Role) (p : ProbeId), ((u.probes.get p).role = r && (u.probes.get p).usable) = true →
      (∀ q < p, ¬ ((u.probes.get q).role = r && (u.probes.get q).usable) = true) → u.serving r = some (u.probes.get p) :=
    fun r p hp hbefore => by rw [TempUnit.serving_eq, fours_find hp hbefore]; rfl
  have hnone : ∀ r : Role, (∀ p, ¬ ((u.probes.get p).role = r && (u.probes.get p).usable) = true) → u.serving r = none :=
    fun r hr => by rw [TempUnit.serving_eq, fours_find_none hr]; rfl
  unfold Reselected
  simp only [hserves]
  refine ⟨fun p hp hbefore => ?_, fun hprimary p hp hbefore => ?_, fun hboth => ?_⟩
  · have hchoose : u.choose = (.primary, some (u.probes.get p)) := by rw [TempUnit.choose, hfirst .primary p hp hbefore]
    simp [TempUnit.reselect, TempUnit.chosenTw, hchoose, htw]
  · have hchoose : u.choose = (.alternate, some (u.probes.get p)) := by
      rw [TempUnit.choose, hnone .primary hprimary, hfirst .alternate p hp hbefore]
    simp [TempUnit.reselect, TempUnit.chosenTw, hchoose, htw]
  · have hchoose : u.choose = (.none, none) := by
      rw [TempUnit.choose, hnone .primary fun p => (hboth p).1, hnone .alternate fun p => (hboth p).2]
    simp [TempUnit.reselect, TempUnit.chosenTw, hchoose, htw]

/-- Only the temperature unit and the tallies are reached. -/
theorem State.reselect_only (s : State) : s.reselect = { s with temp := s.temp.reselect, tally := s.reselect.tally } := by
  unfold State.reselect
  dsimp only
  split <;> rfl

theorem State.reselect_seesTw (s : State) : TallySeesTw s s.reselect := by
  unfold TallySeesTw State.reselect
  dsimp only
  split
  · simp
  · rfl

/-! ## A probe put back (R71) -/

theorem State.putProbe_only (s : State) (p : ProbeId) (x : Probe) : s.putProbe p x = { s with
    temp := { s.temp with probes := s.temp.probes.set p x }
    link := if x.state = (s.probe p).state ∧ x.role = (s.probe p).role then s.link else s.link.raised (probeChange p) } := by
  unfold State.putProbe
  simp only [eq_comm (a := (s.probe p).state), eq_comm (a := (s.probe p).role)]
  split <;> rfl

/-- A probe put back and the selection re-evaluated. -/
theorem State.putProbe_reselect (s : State) (p : ProbeId) (x : Probe) :
    let m := (s.putProbe p x).reselect
    m.temp = { s.temp with
      probes := s.temp.probes.set p x, selection := m.temp.selection, tw := m.temp.tw, held := m.temp.held } ∧
    Reselected s.temp m.temp ∧ TallySeesTw s m ∧
    m.link = (s.putProbe p x).link ∧ m = { s with temp := m.temp, tally := m.tally, link := m.link } := by
  intro m
  have hm : m = (s.putProbe p x).reselect := rfl
  have hput := s.putProbe_only p x
  have htemp : m.temp = (s.putProbe p x).temp.reselect := by rw [hm, State.reselect_only]
  refine ⟨?_, ?_, ?_, ?_, ?_⟩
  · rw [htemp, hput]; rfl
  · rw [htemp]
    exact TempUnit.reselect_reselected (by rw [hput])
  · have hsees := (s.putProbe p x).reselect_seesTw
    unfold TallySeesTw at hsees ⊢
    rw [hput] at hsees
    rw [hm, hput]
    exact hsees
  · rw [hm, State.reselect_only]
  · rw [hm, State.reselect_only, hput]

/-! ## Gates (R58, R59) -/

theorem turnsAfter_eq (p : ProbeId) : turnsAfter p = turnsFrom p := by
  revert p
  decide

theorem State.startGate_starts (s : State) (order : List ProbeId) :
    GateStarts (s.startGate (s.temp.firstWithRole order)) order := rfl

theorem Probe.reject_role (p : Probe) (next : ProbeState) : (p.reject next).role = p.role := by
  unfold Probe.reject
  split <;> rfl

theorem Probe.track_role (p : Probe) (x : Int) (q jump : Nat) : (p.track x q jump).role = p.role := by
  unfold Probe.track
  dsimp only
  split
  · rfl
  · exact p.reject_role _

theorem Probe.recover_role (p : Probe) (x : Int) (jump : Nat) : (p.recover x jump).role = p.role := by
  unfold Probe.recover
  split
  · rfl
  · split
    · split <;> rfl
    · rfl

/-- A reading leaves a probe its role. -/
theorem Probe.judge_role (p : Probe) (r : Reading) (q jump : Nat) : (p.judge r q jump).role = p.role := by
  unfold Probe.judge
  split <;> simp only [Probe.settleAt, Probe.fail, Probe.reject_role, Probe.track_role, Probe.recover_role]

theorem exec_gateEnd_due {g : Gate} (hg : s.temp.gate = some g) (hdue : g.length ≤ ticksSince s.tb.t g.start) :
    exec .gateEnd s = .next (s.endGate g) := by
  show execGateEnd s = _
  rw [execGateEnd, State.gateDue, hg]
  dsimp only
  rw [if_pos hdue]

theorem exec_gateEnd_idle (h : ∀ g, s.temp.gate = some g → ticksSince s.tb.t g.start < g.length) :
    exec .gateEnd s = .next s := by
  have hnone : s.gateDue = none := by
    unfold State.gateDue
    split
    · rfl
    · next g hg => exact if_neg (by have := h g hg; omega)
  show execGateEnd s = _
  rw [execGateEnd, hnone]

/-! ## The settings of a commit (R57) -/

theorem Probe.takeItem_eq (x : Probe) (item : ProbeItem) :
    let y := { x with role := item.role, points := item.points }
    x.takeItem item = if x.role = .none ∧ item.role = .none then y
      else if item.role = .none then
        { y with state := .absent, smoothed := none, lastF10 := none, lastReading := none, rejectRun := 0, recovery := none }
      else if x.role ≠ .none ∧ x.points = item.points then y
      else { y with state := .seeding, smoothed := none, rejectRun := 0, recovery := none } := by
  dsimp only
  unfold Probe.takeItem
  by_cases hrole : x.role = .none
  · by_cases hitem : item.role = .none <;> simp [hrole, hitem, Probe.seed]
  · by_cases hitem : item.role = .none
    · simp [hrole, hitem, Probe.remove]
    · by_cases hpoints : x.points = item.points <;> simp [hrole, hitem, hpoints, Probe.seed]

/-- The notice of one probe's change by a function of its own. -/
def probeNotices (s : State) (f : ProbeId → Probe → Probe) (l : Link) (p : ProbeId) : Link :=
  if (f p (s.probe p)).state = (s.probe p).state ∧ (f p (s.probe p)).role = (s.probe p).role then l
  else l.raised (probeChange p)

/-- Probes put back one after another, each by a function of its own: each becomes what it gives, and each whose state or role
changes is marked. -/
theorem State.putProbes_eq (f : ProbeId → Probe → Probe) (order : List ProbeId) (hdistinct : order.Nodup) (s : State) :
    ∃ probes : Four Probe, (∀ p, probes.get p = if p ∈ order then f p (s.probe p) else s.probe p) ∧
      order.foldl (fun s p => s.putProbe p (f p (s.probe p))) s =
        { s with temp := { s.temp with probes := probes }, link := order.foldl (probeNotices s f) s.link } := by
  induction order generalizing s with
  | nil => exact ⟨s.temp.probes, fun p => by simp [State.probe], rfl⟩
  | cons p rest ih =>
    obtain ⟨hp, hrest⟩ := List.nodup_cons.1 hdistinct
    obtain ⟨probes, hprobes, honly⟩ := ih hrest (s.putProbe p (f p (s.probe p)))
    have hput := s.putProbe_only p (f p (s.probe p))
    have hprobe : ∀ q, (s.putProbe p (f p (s.probe p))).probe q = if q = p then f p (s.probe p) else s.probe q := fun q => by
      rw [State.probe, hput]
      exact Four.get_set _ _ _ _
    have hkept : ∀ q ∈ rest, (s.putProbe p (f p (s.probe p))).probe q = s.probe q := fun q hq => by
      have hne : q ≠ p := fun h => hp (h ▸ hq)
      rw [hprobe, if_neg hne]
    refine ⟨probes, fun q => ?_, ?_⟩
    · rw [hprobes, hprobe]
      by_cases hq : q = p
      · subst hq
        simp [hp]
      · simp [hq]
    · have hlink : rest.foldl (probeNotices (s.putProbe p (f p (s.probe p))) f) (s.putProbe p (f p (s.probe p))).link =
          (p :: rest).foldl (probeNotices s f) s.link := by
        rw [List.foldl_cons, List.foldl_ext _ (probeNotices s f) _ fun l q hq => by
          rw [probeNotices, probeNotices, hkept q hq]]
        congr 1
        rw [hput]
        rfl
      rw [List.foldl_cons, honly, hlink, hput]

theorem exec_probeSettingsTake_none (h : s.mail.tempOffers = []) : exec .probeSettingsTake s = .next s := by
  show execProbeSettingsTake s = _
  rw [execProbeSettingsTake, h]

theorem exec_probeSettingsTake_cons {set : TableSet} {rest : List TableSet} (h : s.mail.tempOffers = set :: rest) :
    exec .probeSettingsTake s =
      .next (State.takeProbeSettings { s with mail := { s.mail with tempOffers := rest } } set) := by
  show execProbeSettingsTake s = _
  rw [execProbeSettingsTake, h]

/-- The gate after the settings of a commit: one is started where none ran or its probe has lost its role. -/
theorem State.gateAfterTake_eq (s : State) :
    ∃ gate, s.gateAfterTake = { s with temp := { s.temp with gate := gate } } ∧
      (s.temp.gate = none → GateStarts s.gateAfterTake fours) ∧
      ∀ g, s.temp.gate = some g → ((s.probe g.probe).role ≠ .none → gate = some g) ∧
        ((s.probe g.probe).role = .none → GateStarts s.gateAfterTake (turnsFrom g.probe)) := by
  cases hgate : s.temp.gate with
  | none =>
    have hstarts : s.gateAfterTake = s.startGate (s.temp.firstWithRole fours) := by rw [State.gateAfterTake, hgate]
    exact ⟨_, hstarts, fun _ => hstarts ▸ s.startGate_starts fours, fun g hg => by cases hg⟩
  | some g =>
    by_cases hrole : (s.probe g.probe).role = .none
    · have hstarts : s.gateAfterTake = s.startGate (s.temp.firstWithRole (turnsFrom g.probe)) := by
        rw [State.gateAfterTake, hgate, ← turnsAfter_eq]
        exact if_pos hrole
      refine ⟨_, hstarts, fun h => (by cases h), fun g' hg' => ?_⟩
      cases hg'
      exact ⟨fun h => absurd hrole h, fun _ => hstarts ▸ s.startGate_starts _⟩
    · have hkept : s.gateAfterTake = s := by
        rw [State.gateAfterTake, hgate]
        exact if_neg hrole
      refine ⟨some g, ?_, fun h => (by cases h), fun g' hg' => ?_⟩
      · rw [hkept, ← hgate]
      · cases hg'
        exact ⟨fun _ => rfl, fun h => absurd h hrole⟩

/-- The selection and then the gate, after the probes have been treated. -/
theorem State.reselect_gateAfterTake (s : State) :
    let t := s.reselect.gateAfterTake
    t.temp = { s.temp with gate := t.temp.gate, selection := t.temp.selection, tw := t.temp.tw, held := t.temp.held } ∧
    Reselected s.temp t.temp ∧ TallySeesTw s t ∧
    (s.temp.gate = none → GateStarts t fours) ∧
    (∀ g, s.temp.gate = some g → ((t.probe g.probe).role ≠ .none → t.temp.gate = some g) ∧
      ((t.probe g.probe).role = .none → GateStarts t (turnsFrom g.probe))) ∧
    t.link = s.link ∧ t = { s with temp := t.temp, tally := t.tally } := by
  intro t
  obtain ⟨gate, hgate, hnone, hsome⟩ := s.reselect.gateAfterTake_eq
  have honly := s.reselect_only
  have hsees := s.reselect_seesTw
  have htemp : s.reselect.temp = s.temp.reselect := by rw [honly]
  have hselected : Reselected s.temp s.reselect.temp := htemp ▸ TempUnit.reselect_reselected rfl
  have hbefore : s.reselect.temp.gate = s.temp.gate := by rw [htemp]; rfl
  change t = _ at hgate
  change _ → GateStarts t fours at hnone
  change ∀ g, _ → _ ∧ (_ → GateStarts t _) at hsome
  rw [hbefore] at hnone hsome
  clear_value t
  generalize s.reselect = chosen at *
  subst hgate
  refine ⟨?_, hselected, hsees, hnone, hsome, by rw [honly], ?_⟩
  · dsimp only
    rw [htemp]
    rfl
  · exact congrArg (fun u : State => { u with temp := { chosen.temp with gate := gate } }) honly

/-- The settings of a commit in the Temperature Unit. -/
theorem State.takeProbeSettings_spec (s : State) (set : TableSet) :
    let t := s.takeProbeSettings set
    (∀ p, t.probe p = (s.probe p).takeItem (set.probes.get p)) ∧
    t.temp = { s.temp with
      probes := t.temp.probes, gate := t.temp.gate, selection := t.temp.selection, tw := t.temp.tw, held := t.temp.held
      gateLength := set.site.gate, q := set.site.q, jump := set.site.jump } ∧
    Reselected s.temp t.temp ∧ TallySeesTw s t ∧
    (s.temp.gate = none → GateStarts t fours) ∧
    (∀ g, s.temp.gate = some g → ((t.probe g.probe).role ≠ .none → t.temp.gate = some g) ∧
      ((t.probe g.probe).role = .none → GateStarts t (turnsFrom g.probe))) ∧
    t.link = fours.foldl (probeNotices s fun p x => x.takeItem (set.probes.get p)) s.link ∧
    t = { s with temp := t.temp, tally := t.tally, link := t.link } := by
  obtain ⟨probes, hprobes, htreated⟩ := State.putProbes_eq (fun p x => x.takeItem (set.probes.get p)) fours (by decide)
    { s with temp := { s.temp with gateLength := set.site.gate, q := set.site.q, jump := set.site.jump } }
  have hall : ∀ p, probes.get p = (s.probe p).takeItem (set.probes.get p) := fun p => by
    have hp : p ∈ fours := by revert p; decide
    rw [hprobes, if_pos hp]
    rfl
  intro t
  have ht : t = State.gateAfterTake (State.reselect { s with
      temp := { s.temp with gateLength := set.site.gate, q := set.site.q, jump := set.site.jump, probes := probes }
      link := fours.foldl (probeNotices s fun p x => x.takeItem (set.probes.get p)) s.link }) := by
    show State.takeProbeSettings s set = _
    unfold State.takeProbeSettings
    dsimp only at htreated ⊢
    rw [htreated]
    rfl
  obtain ⟨htemp, hselected, hsees, hnone, hsome, hlink, honly⟩ := State.reselect_gateAfterTake { s with
    temp := { s.temp with gateLength := set.site.gate, q := set.site.q, jump := set.site.jump, probes := probes }
    link := fours.foldl (probeNotices s fun p x => x.takeItem (set.probes.get p)) s.link }
  rw [← ht] at htemp hselected hsees hnone hsome hlink honly
  have hkept : t.temp.probes = probes := by rw [htemp]
  refine ⟨fun p => by rw [State.probe, hkept]; exact hall p, ?_, hselected, hsees, hnone, hsome, hlink, ?_⟩
  · rw [hkept]
    exact htemp
  · rw [hlink]
    exact honly

end

/-- Settles O32: an edge by the counter; the end of a gate by `State.putProbe_reselect` on its probe, and the next gate. -/
theorem gateCountsAndEnds : Obligations.GateCountsAndEnds := by
  intro s
  refine ⟨fun p => rfl, fun g hg hdue => ?_, exec_gateEnd_idle⟩
  intro x count f10 reading x'
  have hx' : x.takeGate count s.tb.nRef g.length s.temp.q s.temp.jump = x' := rfl
  obtain ⟨htemp, hselected, hsees, hput, honly⟩ := s.putProbe_reselect g.probe x'
  have hend : s.endGate g = ((s.putProbe g.probe x').reselect).startGate
      ((s.putProbe g.probe x').reselect.temp.firstWithRole (turnsFrom g.probe)) := by
    rw [← turnsAfter_eq]
    rfl
  refine ⟨_, exec_gateEnd_due hg hdue, ?_⟩
  rw [hend]
  generalize (s.putProbe g.probe x').reselect = m at htemp hselected hsees hput honly ⊢
  have hlink : m.link = if x'.state = x.state then s.link else s.link.raised (probeChange g.probe) := by
    rw [hput, State.putProbe_only]
    have hrole : x'.role = (s.probe g.probe).role :=
      Probe.judge_role { x with lastF10 := some f10, lastReading := some reading } _ _ _
    simp only [hrole, and_true]
    rfl
  refine ⟨?_, State.startGate_starts m _, hselected, hsees, hlink, ?_⟩
  · exact congrArg (fun u : TempUnit => { u with gate := (m.startGate (m.temp.firstWithRole (turnsFrom g.probe))).temp.gate }) htemp
  · exact congrArg (fun u : State => { u with temp := m.temp.startGate (m.temp.firstWithRole (turnsFrom g.probe)) m.tb.t }) honly

/-- Settles O33: each probe by `Probe.takeItem_eq`, put back in turn by `State.putProbes_eq`, then the selection and the gate. -/
theorem probeSettingsTaken : Obligations.ProbeSettingsTaken := by
  intro s
  refine ⟨exec_probeSettingsTake_none, fun set rest hoffers => ⟨_, exec_probeSettingsTake_cons hoffers, ?_⟩⟩
  obtain ⟨hprobes, htemp, hselected, hsees, hnone, hsome, hlink, honly⟩ :=
    State.takeProbeSettings_spec { s with mail := { s.mail with tempOffers := rest } } set
  generalize State.takeProbeSettings { s with mail := { s.mail with tempOffers := rest } } set = t at *
  refine ⟨fun p => (hprobes p).trans (Probe.takeItem_eq _ _), htemp, hselected, hsees, hnone, hsome, ?_, honly⟩
  refine hlink.trans (congrArg (fun f : Link → ProbeId → Link => fours.foldl f s.link) ?_)
  funext l p
  rw [probeNotices, ← hprobes p]
  rfl

/-! ## CHANNEL_RESTORE and PROBE_RESTORE (R30, R67) -/

section
variable {s : State} {tag : Byte} {body : List Byte}

theorem channelOfNumber_number (ch : ChannelId) : channelOfNumber (leNat [BitVec.ofNat 8 (channelNumber ch)]) = some ch := by
  obtain ⟨ln, p⟩ := ch
  revert ln p
  decide

theorem leNat_single (b : Byte) : leNat [b] = b.toNat := rfl

theorem fourOfNumber_number (n : Fin 4) : fourOfNumber (leNat [BitVec.ofNat 8 (n.val + 1)]) = some n := by
  revert n
  decide

theorem fourOfNumber_none {n : Nat} (h : n = 0 ∨ 4 < n) : fourOfNumber n = none := if_neg (by omega)

theorem channelOfNumber_none {n : Nat} (h : n = 0 ∨ 16 < n) : channelOfNumber n = none := if_neg (by omega)

theorem exec_channelRestore_some {ch : ChannelId} (hlength : body.length = 1) (hch : channelOfNumber (leNat body) = some ch) :
    exec (.channelRestore tag body) s = .next
      ((if (s.unit ch).service = .failed then s.putUnit ch (s.unit ch).restore else s).answer 0x05 tag body [codeOk]) := by
  show execChannelRestore tag body s = _
  rw [execChannelRestore, if_neg (not_not.2 hlength), hch]

theorem exec_channelRestore_none (hlength : body.length = 1) (hch : channelOfNumber (leNat body) = none) :
    exec (.channelRestore tag body) s = .next (s.answer 0x05 tag body [codeBadValue]) := by
  show execChannelRestore tag body s = _
  rw [execChannelRestore, if_neg (not_not.2 hlength), hch]

theorem exec_probeRestore_some {p : ProbeId} (hlength : body.length = 1) (hp : fourOfNumber (leNat body) = some p) :
    exec (.probeRestore tag body) s = .next
      ((if (s.probe p).state = .failed then (s.putProbe p (s.probe p).seed).reselect else s).answer 0x06 tag body [codeOk]) := by
  show execProbeRestore tag body s = _
  rw [execProbeRestore, if_neg (not_not.2 hlength), hp]

theorem exec_probeRestore_none (hlength : body.length = 1) (hp : fourOfNumber (leNat body) = none) :
    exec (.probeRestore tag body) s = .next (s.answer 0x06 tag body [codeBadValue]) := by
  show execProbeRestore tag body s = _
  rw [execProbeRestore, if_neg (not_not.2 hlength), hp]

end

/-- Settles O15: a FAILED channel by `State.putUnit_becomes`, a FAILED probe by `State.putProbe_reselect`, any other by the reply
alone. -/
theorem restoreRequests : Obligations.RestoreRequests := by
  intro s tag
  refine ⟨fun ch hfailed => ?_, fun ch hother => ?_, fun b hb => ?_, fun p hfailed => ?_, fun p hother => ?_, fun b hb => ?_⟩
  · refine ⟨s.putUnit ch (s.unit ch).restore, _, exec_channelRestore_some rfl (channelOfNumber_number ch), ?_, ?_, ?_⟩
    · exact s.putUnit_becomes ch _
    · refine exec_channelSettingsWaiting_idle ?_
      rw [State.putUnit_unit, ChannelUnit.restore_adoptsAtOnce]
      decide
    · rw [if_pos hfailed]
      exact State.answer_only _ _ _ _ _
  · refine ⟨_, exec_channelRestore_some rfl (channelOfNumber_number ch), ?_⟩
    rw [if_neg hother]
    exact State.answer_only _ _ _ _ _
  · exact ⟨_, exec_channelRestore_none rfl (channelOfNumber_none hb), State.answer_only _ _ _ _ _⟩
  · obtain ⟨htemp, hselected, hsees, hlink, honly⟩ := s.putProbe_reselect p (s.probe p).seed
    refine ⟨(s.putProbe p (s.probe p).seed).reselect, _, exec_probeRestore_some rfl (fourOfNumber_number p), ?_, ?_, hselected,
      hsees, ?_, ?_⟩
    · rw [htemp]
      rfl
    · refine htemp.trans ?_
      rw [htemp]
    · refine honly.trans ?_
      rw [hlink, State.putProbe_only, if_neg]
      rintro ⟨hstate, -⟩
      rw [hfailed] at hstate
      cases hstate
    · rw [if_pos hfailed]
      exact State.answer_only _ _ _ _ _
  · refine ⟨_, exec_probeRestore_some rfl (fourOfNumber_number p), ?_⟩
    rw [if_neg hother]
    exact State.answer_only _ _ _ _ _
  · exact ⟨_, exec_probeRestore_none rfl (fourOfNumber_none hb), State.answer_only _ _ _ _ _⟩

end Sys2Proof.Machine
end

section
/-! Windows and interpolation: the match windows bracket the speeds, and a table's value lies on the line between its neighbours
(R44, R61, R99 to R101). -/

namespace Sys2Proof.Machine

/-! ## The match windows (R44) -/

theorem kmhToMm_pos {v : Nat} (h : 0 < v) : 0 < kmhToMm v := by
  unfold kmhToMm roundNat
  exact Nat.div_pos (by omega) (by omega)

theorem ceilNat_least {n d m : Nat} (hd : 0 < d) (h : n ≤ m * d) : ceilNat n d ≤ m := by
  obtain ⟨-, hhigh⟩ := ceilNat_bounds n hd
  have hlt : ceilNat n d * d < (m + 1) * d := by rw [Nat.add_mul]; omega
  exact Nat.lt_succ_iff.1 (Nat.lt_of_mul_lt_mul_right hlt)

/-- Settles O16: Δt_min rounds its quotient up, Δt_max rounds its own down. -/
theorem windowsBracketSpeeds : Obligations.WindowsBracketSpeeds := fun _ _ hlo hhi =>
  ⟨(ceilNat_bounds _ (kmhToMm_pos hhi)).1, fun _ hm => ceilNat_least (kmhToMm_pos hhi) hm, Nat.div_mul_le_self _ _,
    fun _ hm => (Nat.le_div_iff_mul_le (kmhToMm_pos hlo)).2 hm⟩

/-! ## A line between two points (R61, R99) -/

/-- The value a share j / n of the way from one value to another, rounded. -/
def lerp (y0 y1 j : Int) (n : Nat) : Int := y0 + roundInt ((y1 - y0) * j) n

theorem roundNat_le_of_le {x q n : Nat} (hn : 0 < n) (h : x ≤ q * n) : roundNat x n ≤ q := by
  refine Nat.lt_succ_iff.1 ((Nat.div_lt_iff_lt_mul (by omega)).2 ?_)
  have hexpand : q.succ * (2 * n) = 2 * (q * n) + 2 * n := by rw [Nat.succ_eq_add_one]; ring
  omega

theorem roundNat_mul (q : Nat) {n : Nat} (hn : 0 < n) : roundNat (q * n) n = q := by
  have hexpand : 2 * (q * n) + n = n + (2 * n) * q := by ring
  rw [roundNat, hexpand, Nat.add_mul_div_left _ _ (by omega), Nat.div_eq_of_lt (by omega), Nat.zero_add]

theorem roundInt_mul (q : Int) {n : Nat} (hn : 0 < n) : roundInt (q * n) n = q := by
  rcases Int.eq_nat_or_neg q with ⟨m, rfl | rfl⟩
  · rw [← Nat.cast_mul, roundInt_natCast, roundNat_mul m hn]
  · rw [neg_mul, ← Nat.cast_mul, roundInt_neg_natCast, roundNat_mul m hn]

theorem lerp_start (y0 y1 : Int) {n : Nat} (hn : 0 < n) : lerp y0 y1 0 n = y0 := by
  have hzero : roundInt 0 n = 0 := by simpa using roundInt_mul 0 hn
  rw [lerp, mul_zero, hzero, add_zero]

theorem lerp_end (y0 y1 : Int) {n : Nat} (hn : 0 < n) : lerp y0 y1 n n = y1 := by
  rw [lerp, roundInt_mul _ hn]
  ring

/-- A share of a difference does not exceed it. -/
theorem lerp_between (y0 y1 : Int) {j : Int} {n : Nat} (hn : 0 < n) (h0 : 0 ≤ j) (hj : j ≤ n) :
    min y0 y1 ≤ lerp y0 y1 j n ∧ lerp y0 y1 j n ≤ max y0 y1 := by
  obtain ⟨k, rfl⟩ := Int.eq_ofNat_of_zero_le h0
  have hk : k ≤ n := by omega
  have hshare : ∀ m : Nat, roundNat (m * k) n ≤ m := fun m => roundNat_le_of_le hn (Nat.mul_le_mul_left m hk)
  unfold lerp
  rcases Int.eq_nat_or_neg (y1 - y0) with ⟨m, hm | hm⟩
  · rw [hm, ← Nat.cast_mul, roundInt_natCast]
    have := hshare m
    omega
  · rw [hm, neg_mul, ← Nat.cast_mul, roundInt_neg_natCast]
    have := hshare m
    omega

/-! ## Factors (R99) -/

section
variable {points : List (Int × Nat)} {x : Int}

/-- Points stand in increasing order. -/
def Increasing {α : Type} (points : List (Int × α)) : Prop := points.Pairwise fun a b => a.1 < b.1

/-- The factor on the line between two points. -/
theorem interpolateFrom_within {a b : Int × Nat} {rest : List (Int × Nat)} (hlow : a.1 ≤ x) (hhigh : x < b.1) :
    (interpolateFrom a.1 a.2 (b :: rest) x : Int) = lerp a.2 b.2 (x - a.1) (b.1 - a.1).toNat := by
  have hbetween := lerp_between a.2 b.2 (j := x - a.1) (n := (b.1 - a.1).toNat) (by omega) (by omega) (by omega)
  rw [interpolateFrom, if_pos hhigh]
  show (((lerp a.2 b.2 (x - a.1) (b.1 - a.1).toNat).toNat : Nat) : Int) = _
  omega

theorem interpolateFrom_past {a b : Int × Nat} {rest : List (Int × Nat)} (h : b.1 ≤ x) :
    interpolateFrom a.1 a.2 (b :: rest) x = interpolateFrom b.1 b.2 rest x := by
  rw [interpolateFrom, if_neg (by omega)]

/-- From the first point on, the table is read as from that point. -/
theorem interpolate_from {a b : Int × Nat} {rest : List (Int × Nat)} (hab : a.1 < b.1) (h : a.1 ≤ x) :
    interpolate (a :: b :: rest) x = interpolateFrom a.1 a.2 (b :: rest) x := by
  rw [interpolate]
  split
  · next hle =>
    obtain rfl : x = a.1 := by omega
    have hwithin := interpolateFrom_within (rest := rest) (le_refl a.1) hab
    rw [sub_self, lerp_start _ _ (by omega)] at hwithin
    exact_mod_cast hwithin.symm
  · rfl

/-- The points before the one read from play no part. -/
theorem interpolateFrom_suffix {a c : Int × Nat} {before after : List (Int × Nat)} (hsorted : Increasing (a :: before ++ c :: after))
    (h : c.1 ≤ x) : interpolateFrom a.1 a.2 (before ++ c :: after) x = interpolateFrom c.1 c.2 after x := by
  induction before generalizing a with
  | nil => exact interpolateFrom_past h
  | cons b before ih =>
    have htail : Increasing (b :: before ++ c :: after) := (List.pairwise_cons.1 hsorted).2
    have hb : b.1 < c.1 := (List.pairwise_cons.1 htail).1 c (by simp)
    rw [List.cons_append, interpolateFrom_past (by omega), ih htail]

theorem interpolate_suffix {c : Int × Nat} {before after : List (Int × Nat)} (hsorted : Increasing (before ++ c :: after))
    (hlength : 2 ≤ (before ++ c :: after).length) (h : c.1 ≤ x) :
    interpolate (before ++ c :: after) x = interpolateFrom c.1 c.2 after x := by
  cases before with
  | nil =>
    cases after with
    | nil => simp at hlength
    | cons b after => exact interpolate_from ((List.pairwise_cons.1 hsorted).1 b (by simp)) h
  | cons a before =>
    have ha : a.1 < c.1 := (List.pairwise_cons.1 hsorted).1 c (by simp)
    cases before with
    | nil =>
      rw [List.cons_append, List.nil_append, interpolate_from ha (by omega)]
      exact interpolateFrom_past h
    | cons b before =>
      have hab : a.1 < b.1 := (List.pairwise_cons.1 hsorted).1 b (by simp)
      rw [List.cons_append, List.cons_append, interpolate_from hab (by omega)]
      exact interpolateFrom_suffix (before := b :: before) hsorted h

theorem interpolate_before {a : Int × Nat} (hlength : 2 ≤ points.length) (hhead : points.head? = some a) (h : x ≤ a.1) :
    interpolate points x = a.2 := by
  match points, hlength with
  | p :: q :: rest, _ =>
    cases hhead
    rw [interpolate, if_pos h]

theorem interpolate_beyond {b : Int × Nat} (hlength : 2 ≤ points.length) (hsorted : Increasing points)
    (hlast : points.getLast? = some b) (h : b.1 ≤ x) : interpolate points x = b.2 := by
  obtain ⟨before, rfl⟩ := List.getLast?_eq_some_iff.1 hlast
  rw [interpolate_suffix hsorted hlength h]
  rfl

theorem interpolate_within {a b : Int × Nat} {before after : List (Int × Nat)} (hsorted : Increasing (before ++ a :: b :: after))
    (hlow : a.1 ≤ x) (hhigh : x < b.1) :
    (interpolate (before ++ a :: b :: after) x : Int) = lerp a.2 b.2 (x - a.1) (b.1 - a.1).toNat := by
  rw [interpolate_suffix hsorted (by simp; omega) hlow, interpolateFrom_within hlow hhigh]

theorem interpolate_between {a b : Int × Nat} {before after : List (Int × Nat)} (hsorted : Increasing (before ++ a :: b :: after))
    (hlow : a.1 ≤ x) (hhigh : x < b.1) : min a.2 b.2 ≤ interpolate (before ++ a :: b :: after) x ∧
      interpolate (before ++ a :: b :: after) x ≤ max a.2 b.2 := by
  have hvalue := interpolate_within hsorted hlow hhigh
  have hbetween := lerp_between a.2 b.2 (j := x - a.1) (n := (b.1 - a.1).toNat) (by omega) (by omega) (by omega)
  omega

theorem interpolate_point {a : Int × Nat} (hlength : 2 ≤ points.length) (hsorted : Increasing points) (ha : a ∈ points)
    (h : x = a.1) : interpolate points x = a.2 := by
  subst h
  obtain ⟨before, after, rfl⟩ := List.append_of_mem ha
  rw [interpolate_suffix hsorted hlength (le_refl _)]
  cases after with
  | nil => rfl
  | cons b after =>
    have hab : a.1 < b.1 := (List.pairwise_cons.1 (List.pairwise_append.1 hsorted).2.1).1 b (by simp)
    have hvalue := interpolateFrom_within (rest := after) (le_refl a.1) hab
    rw [sub_self, lerp_start _ _ (by omega)] at hvalue
    exact_mod_cast hvalue

/-- A place at or above the first point and below the last lies between two neighbours. -/
theorem exists_neighbours (hne : ∃ a, points.head? = some a ∧ a.1 ≤ x) (hlast : ∀ b, points.getLast? = some b → x < b.1) :
    ∃ before a b after, points = before ++ a :: b :: after ∧ a.1 ≤ x ∧ x < b.1 := by
  induction points with
  | nil => obtain ⟨a, ha, -⟩ := hne; cases ha
  | cons p rest ih =>
    obtain ⟨a, ha, hlow⟩ := hne
    cases ha
    cases rest with
    | nil => exact absurd (hlast p rfl) (by omega)
    | cons q rest =>
      by_cases hq : x < q.1
      · exact ⟨[], p, q, rest, rfl, hlow, hq⟩
      · obtain ⟨before, a, b, after, heq, hbounds⟩ := ih ⟨q, rfl, by omega⟩ fun b hb => hlast b hb
        exact ⟨p :: before, a, b, after, by rw [heq]; rfl, hbounds⟩

/-- A factor lies within the bounds of its table. -/
theorem interpolate_range (hlength : 2 ≤ points.length) (hsorted : Increasing points) {lo hi : Nat}
    (h : ∀ a ∈ points, lo ≤ a.2 ∧ a.2 ≤ hi) : lo ≤ interpolate points x ∧ interpolate points x ≤ hi := by
  obtain ⟨a, ha⟩ : ∃ a, points.head? = some a := by
    cases points with
    | nil => simp at hlength
    | cons a rest => exact ⟨a, rfl⟩
  by_cases hlow : x ≤ a.1
  · rw [interpolate_before hlength ha hlow]
    exact h a (List.mem_of_mem_head? ha)
  · by_cases hhigh : ∃ b, points.getLast? = some b ∧ b.1 ≤ x
    · obtain ⟨b, hb, hbeyond⟩ := hhigh
      rw [interpolate_beyond hlength hsorted hb hbeyond]
      exact h b (List.mem_of_getLast? hb)
    · obtain ⟨before, p, q, after, rfl, hp, hq⟩ := exists_neighbours (x := x) ⟨a, ha, by omega⟩ fun b hb => by
        by_contra hle
        exact hhigh ⟨b, hb, by omega⟩
      have hbetween := interpolate_between hsorted hp hq
      have hp2 := h p (by simp)
      have hq2 := h q (by simp)
      omega

end

/-! ## The nine factors of a TEMPTAB (R101) -/

section
variable {factors : List Nat} {tw : Int}

theorem tempPoints_get {i : Nat} (h : i < 9) : tempPoints[i]? = some (100 * (i : Int) - 200) := by
  revert h i
  decide

theorem zip_increasing (hlength : factors.length = 9) : Increasing (tempPoints.zip factors) := by
  have hfirst : (tempPoints.zip factors).map Prod.fst = tempPoints := List.map_fst_zip (by rw [hlength]; decide)
  have hsorted : ((tempPoints.zip factors).map Prod.fst).Pairwise (· < ·) := by rw [hfirst]; decide
  exact List.pairwise_map.1 hsorted

theorem zip_length (hlength : factors.length = 9) : (tempPoints.zip factors).length = 9 := by
  rw [List.length_zip, hlength]
  rfl

theorem zip_get (hlength : factors.length = 9) {i k : Nat} (hk : factors[i]? = some k) :
    (tempPoints.zip factors)[i]? = some (100 * (i : Int) - 200, k) := by
  obtain ⟨hi, -⟩ := List.getElem?_eq_some_iff.1 hk
  exact List.getElem?_zip_eq_some.2 ⟨tempPoints_get (by omega), hk⟩

/-- Two neighbours of a list stand next to each other in it. -/
theorem eq_take_append_neighbours {α : Type} {l : List α} {i : Nat} {a b : α} (ha : l[i]? = some a) (hb : l[i + 1]? = some b) :
    l = l.take i ++ a :: b :: l.drop (i + 2) := by
  obtain ⟨hi, rfl⟩ := List.getElem?_eq_some_iff.1 ha
  obtain ⟨hi', rfl⟩ := List.getElem?_eq_some_iff.1 hb
  rw [← List.drop_eq_getElem_cons hi', ← List.drop_eq_getElem_cons hi, List.take_append_drop]

end

/-! ## A probe's table (R61) -/

section
variable {points : List (Nat × Int)} {f : Nat}

theorem convert_below {a : Nat × Int} (hlength : 2 ≤ points.length) (hhead : points.head? = some a) (h : f < a.1) :
    convert points f = none := by
  match points, hlength with
  | p :: q :: rest, _ =>
    cases hhead
    rw [convert, if_pos h]

/-- Past a point the table is read from it. -/
theorem convert_past {a b : Nat × Int} {rest : List (Nat × Int)} (hab : a.1 < b.1) (h : b.1 < f) :
    convert (a :: b :: rest) f = convert (b :: rest) f := by
  rw [convert, if_neg (by omega), if_neg (by omega)]

theorem convert_above {b : Nat × Int} (hsorted : points.Pairwise fun a b => a.1 < b.1) (hlast : points.getLast? = some b)
    (h : b.1 < f) : convert points f = none := by
  induction points with
  | nil => rfl
  | cons p rest ih =>
    cases rest with
    | nil => rfl
    | cons q rest =>
      have hlast' : (q :: rest).getLast? = some b := hlast
      have htail := (List.pairwise_cons.1 hsorted).2
      have hq : q.1 ≤ b.1 := by
        rcases List.mem_cons.1 (List.mem_of_getLast? hlast') with rfl | hb
        · exact le_refl _
        · exact ((List.pairwise_cons.1 htail).1 b hb).le
      rw [convert_past ((List.pairwise_cons.1 hsorted).1 q (by simp)) (by omega)]
      exact ih htail hlast'

theorem convert_first {a b : Nat × Int} {rest : List (Nat × Int)} (hlow : a.1 ≤ f) (hhigh : f ≤ b.1) :
    convert (a :: b :: rest) f = some (lerp a.2 b.2 ((f : Int) - a.1) (b.1 - a.1)) := by
  rw [convert, if_neg (by omega), if_pos hhigh]
  rfl

/-- Within the table the value is on the line between two neighbours; at a point both its lines give the point's own value. -/
theorem convert_within {a b : Nat × Int} {before after : List (Nat × Int)}
    (hsorted : (before ++ a :: b :: after).Pairwise fun a b => a.1 < b.1) (hlow : a.1 ≤ f) (hhigh : f ≤ b.1) :
    convert (before ++ a :: b :: after) f = some (lerp a.2 b.2 ((f : Int) - a.1) (b.1 - a.1)) := by
  induction before with
  | nil => exact convert_first hlow hhigh
  | cons p before ih =>
    obtain ⟨hp, htail⟩ := List.pairwise_cons.1 hsorted
    cases before with
    | nil =>
      have hpa : p.1 < a.1 := hp a (by simp)
      have hab : a.1 < b.1 := (List.pairwise_cons.1 htail).1 b (by simp)
      rcases Nat.lt_or_eq_of_le hlow with hpast | rfl
      · exact (convert_past hpa hpast).trans (ih htail)
      · have hend := convert_first (rest := b :: after) (Nat.le_of_lt hpa) (le_refl a.1)
        rw [← Nat.cast_sub hpa.le, lerp_end _ _ (by omega)] at hend
        rw [sub_self, lerp_start _ _ (by omega)]
        exact hend
    | cons q before =>
      have hq : q.1 < a.1 := (List.pairwise_cons.1 htail).1 a (by simp)
      exact (convert_past (hp q (by simp)) (by omega)).trans (ih htail)

end

/-- Settles O27: factors by `interpolate_before`, `interpolate_beyond`, `interpolate_point` and `interpolate_within`, a TEMPTAB as
the table at its nine temperatures, and a probe's table by `convert_below`, `convert_above` and `convert_within`. -/
theorem tablesAreInterpolated : Obligations.TablesAreInterpolated := by
  refine ⟨fun points x hlength hsorted => ?_, fun factors tw hlength => ?_, fun points v => rfl,
    fun points f hlength hsorted => ?_⟩
  · refine ⟨fun a ha hx => interpolate_before hlength ha hx, fun b hb hx => interpolate_beyond hlength hsorted hb hx,
      fun a ha hx => interpolate_point hlength hsorted ha hx, fun before a b after hsplit hlow hhigh => ?_,
      fun hrange => interpolate_range hlength hsorted hrange⟩
    subst hsplit
    exact ⟨interpolate_within hsorted hlow hhigh, interpolate_between hsorted hlow hhigh⟩
  · have hsorted := zip_increasing hlength
    have htwo : 2 ≤ (tempPoints.zip factors).length := by rw [zip_length hlength]; decide
    refine ⟨fun i k hk htw => ?_, fun k hk htw => ?_, fun k hk htw => ?_, fun i k1 k2 hk1 hk2 hlow hhigh => ?_⟩
    · exact interpolate_point htwo hsorted (List.mem_of_getElem? (zip_get hlength hk)) htw
    · rw [List.head?_eq_getElem?] at hk
      have hhead := zip_get hlength hk
      rw [← List.head?_eq_getElem?] at hhead
      exact interpolate_before htwo hhead htw
    · rw [List.getLast?_eq_getElem?, hlength] at hk
      have hlast := zip_get hlength hk
      have hget : (tempPoints.zip factors).getLast? = some (100 * ((9 - 1 : Nat) : Int) - 200, k) := by
        rw [List.getLast?_eq_getElem?, zip_length hlength]
        exact hlast
      exact interpolate_beyond htwo hsorted hget htw
    · have hsplit := eq_take_append_neighbours (zip_get hlength hk1) (zip_get hlength hk2)
      have hwithin := interpolate_within (x := tw) (hsplit ▸ hsorted) hlow (by push_cast; omega)
      rw [← hsplit] at hwithin
      refine hwithin.trans ?_
      have hstep : (100 * ((i + 1 : Nat) : Int) - 200 - (100 * (i : Int) - 200)).toNat = 100 := by push_cast; omega
      dsimp only
      rw [hstep]
      rfl
  · refine ⟨fun a ha hf => convert_below hlength ha hf, fun b hb hf => convert_above hsorted hb hf,
      fun before a b after hsplit hlow hhigh => ?_⟩
    subst hsplit
    have hab : a.1 < b.1 := (List.pairwise_cons.1 (List.pairwise_append.1 hsorted).2.1).1 b (by simp)
    exact ⟨_, convert_within hsorted hlow hhigh, rfl, lerp_between _ _ (by omega) (by omega) (by omega)⟩

end Sys2Proof.Machine
end

section
/-! The totals of a record (O28), the offers of a commit and the drift requests (O36, O37), and the Record Store and the Tally
Unit as they take, count and release (O42, O43, O44). -/

namespace Sys2Proof.Machine

/-! ## The totals of a record -/

/-- A list whose members are bounded has a bounded sum. -/
theorem sum_le_bound (l : List Nat) {bound n : Nat} (hlength : l.length ≤ n) (hle : ∀ d ∈ l, d ≤ bound) :
    l.sum ≤ n * bound :=
  calc l.sum ≤ l.length * bound := by simpa using List.sum_le_card_nsmul l bound hle
    _ ≤ n * bound := Nat.mul_le_mul_right bound hlength

/-- Settles O28: the entries are those of the weighed axles, each load within its limit, and both totals are sums over them. -/
theorem recordTotals : Obligations.RecordTotals := by
  intro tb serial ln ctx tailgate timeout r
  have hlength : r.axles.length = ctx.axles.length := by
    rw [completeRecord_axles, List.length_map]
  have hloads : ∀ e ∈ r.axles, e.load ≤ 65534 ∧ e.left ≤ 32767 ∧ e.right ≤ 32767 := by
    intro e he
    rw [completeRecord_axles] at he
    obtain ⟨x, -, rfl⟩ := List.mem_map.1 he
    have hlimited := weighAxle_limited ctx ln ctx.speed tb.nRef x
    exact ⟨hlimited.load_le, hlimited.left_le, hlimited.right_le⟩
  have hgvw : r.gvw = (r.axles.map AxleEntry.load).sum := by
    rw [completeRecord_loads]
    rfl
  have hbase : r.wheelbase = (r.axles.filterMap AxleEntry.spacing).sum := by
    rw [completeRecord_spacings]
    rfl
  refine ⟨hlength, hloads, hgvw, hbase, fun hcount => ?_, fun hcount hle => ?_, fun x hx hnone => ?_⟩
  · rw [hgvw]
    refine sum_le_bound (bound := 65534) (n := 13) _ (by rw [List.length_map]; omega) fun d hd => ?_
    obtain ⟨e, he, rfl⟩ := List.mem_map.1 hd
    exact (hloads e he).1
  · rw [hbase]
    exact sum_le_bound _ hcount hle
  · rw [hbase, completeRecord_spacings, hx]
    simp [hnone]

/-! ## The offers of a commit -/

/-- What a taken policy leaves of the tracker: the policy is the new one and each lane keeps its frozen flag. -/
theorem DriftTracker.take_policy (d : DriftTracker) (o : DriftOffer) : (d.take o).policy = o.policy := by
  unfold DriftTracker.take
  by_cases hreset : o.reset
  · simp [hreset]
  · by_cases hre : d.policy.rebatches o.policy <;> simp [hreset, hre]

theorem DriftTracker.take_frozen (d : DriftTracker) (o : DriftOffer) (ln : LaneId) :
    ((d.take o).lanes.get ln).frozen = (d.lanes.get ln).frozen := by
  unfold DriftTracker.take
  by_cases hreset : o.reset
  · simp [hreset, DriftTracker.mapBands]
  · by_cases hre : d.policy.rebatches o.policy <;> simp [hreset, hre, DriftTracker.mapBands]

/-- The batches are kept exactly when class, target, window and batch size are. -/
theorem DriftItem.rebatches_eq_false_iff (old new : DriftItem) : old.rebatches new = false ↔
    new.refClass = old.refClass ∧ new.target = old.target ∧ new.window = old.window ∧ new.batch = old.batch := by
  simp [DriftItem.rebatches, and_assoc, @eq_comm _ new.refClass, @eq_comm _ new.target, @eq_comm _ new.window,
    @eq_comm _ new.batch]

/-- Each band after a policy is taken (R141, R142). -/
theorem DriftTracker.take_band_eq (d : DriftTracker) (o : DriftOffer) (ln : LaneId) (b : Band) :
    ((d.take o).lanes.get ln).bands.get b =
      if o.reset then DriftBand.start
      else if o.policy.refClass = d.policy.refClass ∧ o.policy.target = d.policy.target ∧
          o.policy.window = d.policy.window ∧ o.policy.batch = d.policy.batch then (d.lanes.get ln).bands.get b
      else ((d.lanes.get ln).bands.get b).empty := by
  unfold DriftTracker.take
  by_cases hreset : o.reset
  · simp [hreset]
  · by_cases hre : d.policy.rebatches o.policy
    · have hdiffer := mt (d.policy.rebatches_eq_false_iff o.policy).2 (by simpa using hre)
      rw [if_neg hreset, if_neg hreset, if_neg hdiffer]
      simp [hre]
    · have hsame := (d.policy.rebatches_eq_false_iff o.policy).1 (by simpa using hre)
      rw [if_neg hreset, if_neg hreset, if_pos hsame]
      simp [hre]

theorem exec_driftPolicyTake_none {s : State} (h : s.mail.driftOffers = []) : exec .driftPolicyTake s = .next s := by
  show execDriftPolicyTake s = _
  rw [execDriftPolicyTake, h]

theorem exec_driftPolicyTake_some {s : State} {o : DriftOffer} {rest : List DriftOffer} (h : s.mail.driftOffers = o :: rest) :
    exec .driftPolicyTake s = .next { s with mail := { s.mail with driftOffers := rest }, drift := s.drift.take o } := by
  show execDriftPolicyTake s = _
  rw [execDriftPolicyTake, h]

theorem exec_siteSettingsTake_none {s : State} (h : s.mail.siteOffers = []) : exec .siteSettingsTake s = .next s := by
  show execSiteSettingsTake s = _
  rw [execSiteSettingsTake, h]

theorem exec_siteSettingsTake_some {s : State} {site : SiteItem} {rest : List SiteItem} (h : s.mail.siteOffers = site :: rest) :
    exec .siteSettingsTake s = .next (State.takeSite { s with mail := { s.mail with siteOffers := rest } } site) := by
  show execSiteSettingsTake s = _
  rw [execSiteSettingsTake, h]

/-- The ready test raises the notice and disarms, or changes nothing (R165). -/
theorem State.readyTest_raises {s : State} (h : s.store.armed = true ∧ s.store.threshold ≤ s.store.held.length) :
    s.readyTest = State.raise { s with store := { s.store with armed := false } }
      (.recordsReady s.store.held.length s.store.oldest) := if_pos h

theorem State.readyTest_keeps {s : State} (h : ¬(s.store.armed = true ∧ s.store.threshold ≤ s.store.held.length)) :
    s.readyTest = s := if_neg h

/-- A threshold taken while the notice is armed is followed by the ready test (R165). -/
theorem State.takeSite_armed {s : State} (h : s.store.armed = true) (site : SiteItem) :
    s.takeSite site = State.readyTest { s with
      tally := { s.tally with interval := site.interval }, store := { s.store with threshold := site.threshold } } :=
  if_pos h

/-- A threshold taken while the notice is disarmed may re-arm it (R165). -/
theorem State.takeSite_disarmed {s : State} (h : s.store.armed = false) (site : SiteItem) :
    s.takeSite site = { s with
      tally := { s.tally with interval := site.interval }
      store := RecordStore.rearm { s.store with threshold := site.threshold } } :=
  if_neg (by simp [h])

/-- Settles O36: the tracker by `DriftTracker.take_band_eq`; the threshold by the arming before it. -/
theorem commitOffersTaken : Obligations.CommitOffersTaken := by
  intro s
  refine ⟨exec_driftPolicyTake_none, fun o rest hoffers => ?_, exec_siteSettingsTake_none, fun site rest hoffers => ?_⟩
  · exact ⟨_, exec_driftPolicyTake_some hoffers, s.drift.take_policy o, s.drift.take_frozen o, s.drift.take_band_eq o, rfl⟩
  · intro held raises rearms fresh
    rw [exec_siteSettingsTake_some hoffers]
    cases harmed : s.store.armed with
    | true =>
      rw [State.takeSite_armed (s := { s with mail := { s.mail with siteOffers := rest } }) harmed]
      refine ⟨fun h => ?_, fun h => absurd h.1 (by simp [harmed]), fun h _ => ?_⟩
      · exact congrArg Host.Outcome.next (State.readyTest_raises ⟨harmed, h.2⟩)
      · exact congrArg Host.Outcome.next (State.readyTest_keeps h)
    | false =>
      rw [State.takeSite_disarmed (s := { s with mail := { s.mail with siteOffers := rest } }) harmed]
      refine ⟨fun h => absurd h.1 (by simp [harmed]), fun h => ?_, fun _ h => ?_⟩
      · rw [RecordStore.rearm, if_pos h.2]
      · rw [RecordStore.rearm, if_neg fun hlt => h ⟨harmed, hlt⟩]

/-! ## The drift requests -/

theorem bandOfNumber_val (b : Band) : bandOfNumber b.val = some b := dif_pos b.isLt

theorem bandOfNumber_none {n : Nat} (h : 7 < n) : bandOfNumber n = none := dif_neg (by omega)

theorem flagOf_none {n : Nat} (h : 1 < n) : flagOf n = none := by
  match n, h with
  | n + 2, _ => rfl

/-- A single-byte field is the byte's value. -/
theorem field_cons_zero (b : Byte) (rest : List Byte) : field (b :: rest) 0 1 = b.toNat := by
  simp [field, slice, leNat]

/-- A field behind the first byte. -/
theorem field_cons_succ (b : Byte) (rest : List Byte) (i n : Nat) : field (b :: rest) (i + 1) n = field rest i n := rfl

theorem field_whole (n v : Nat) : field (leBytes n v) 0 n = v % 256 ^ n := by
  simpa using field_leBytes n v []

theorem exec_driftFreeze_some {s : State} {tag a b : Byte} {ln : LaneId} {on : Bool} (hlane : fourOfNumber a.toNat = some ln)
    (hon : flagOf b.toNat = some on) :
    exec (.driftFreeze tag [a, b]) s = .next ((s.setFrozen ln on).answer 0x1A tag [a, b] [codeOk]) := by
  show execDriftFreeze tag [a, b] s = _
  rw [execDriftFreeze, if_neg (by simp), field_cons_succ, field_cons_zero, field_cons_zero, hlane, hon]

theorem exec_driftFreeze_none {s : State} {tag a b : Byte} (h : fourOfNumber a.toNat = none ∨ flagOf b.toNat = none) :
    exec (.driftFreeze tag [a, b]) s = .next (s.answer 0x1A tag [a, b] [codeBadValue]) := by
  show execDriftFreeze tag [a, b] s = _
  rw [execDriftFreeze, if_neg (by simp), field_cons_succ, field_cons_zero, field_cons_zero]
  rcases h with hlane | hon
  · rw [hlane]
  · rw [hon]
    cases fourOfNumber a.toNat <;> rfl

/-- The three fields of a DRIFT_SET body. -/
theorem exec_driftSet_fields (s : State) (tag a b : Byte) {kd : Nat} (hkd : kd < 65536) :
    exec (.driftSet tag (a :: b :: leBytes 2 kd)) s = .next (
      match fourOfNumber a.toNat, bandOfNumber b.toNat with
      | some ln, some band =>
        if within 12288 20480 kd then
          (s.setDriftBand ln band { (s.driftBand ln band).empty with kd := kd }).answer 0x19 tag (a :: b :: leBytes 2 kd) [codeOk]
        else s.answer 0x19 tag (a :: b :: leBytes 2 kd) [codeBadValue]
      | _, _ => s.answer 0x19 tag (a :: b :: leBytes 2 kd) [codeBadValue]) := by
  show execDriftSet tag (a :: b :: leBytes 2 kd) s = _
  rw [execDriftSet, if_neg (by simp), field_cons_succ, field_cons_zero, field_cons_zero, field_cons_succ, field_cons_succ,
    field_whole, Nat.mod_eq_of_lt (b := 256 ^ 2) hkd]
  rfl

/-- Settles O37: the number and the setting or factor name their lane, flag, band and factor, or the reply is BAD_VALUE. -/
theorem driftRequests : Obligations.DriftRequests := by
  intro s tag
  refine ⟨fun ln on => ?_, fun a b h => ?_, fun ln b kd hlow hhigh => ?_, fun a b kd hkd h => ?_⟩
  · have hon : flagOf (if on then (1 : Byte) else 0).toNat = some on := by cases on <;> rfl
    exact ⟨_, exec_driftFreeze_some (fourOfNumber_number ln) hon, State.answer_only _ _ _ _ _⟩
  · have hnone : fourOfNumber a.toNat = none ∨ flagOf b.toNat = none := by
      rcases h with ha | ha | hb
      · exact .inl (fourOfNumber_none (.inl ha))
      · exact .inl (fourOfNumber_none (.inr ha))
      · exact .inr (flagOf_none hb)
    exact ⟨_, exec_driftFreeze_none hnone, State.answer_only _ _ _ _ _⟩
  · have hband : bandOfNumber (BitVec.ofNat 8 b.val).toNat = some b := by
      rw [BitVec.toNat_ofNat, Nat.mod_eq_of_lt (by omega)]
      exact bandOfNumber_val b
    have hlane : fourOfNumber (BitVec.ofNat 8 (ln.val + 1)).toNat = some ln := fourOfNumber_number ln
    refine ⟨_, exec_driftSet_fields s tag _ _ (by omega), ?_⟩
    rw [hlane, hband]
    simp only [(within_iff 12288 20480 kd).2 ⟨hlow, hhigh⟩, if_true]
    exact State.answer_only _ _ _ _ _
  · refine ⟨_, exec_driftSet_fields s tag a b hkd, ?_⟩
    cases hlane : fourOfNumber a.toNat with
    | none => exact State.answer_only _ _ _ _ _
    | some ln =>
      cases hband : bandOfNumber b.toNat with
      | none => exact State.answer_only _ _ _ _ _
      | some band =>
        have hout : ¬ within 12288 20480 kd = true := by
          rw [within_iff]
          rcases h with ha | ha | hb | hkd' | hkd'
          · rw [fourOfNumber_none (.inl ha)] at hlane
            cases hlane
          · rw [fourOfNumber_none (.inr ha)] at hlane
            cases hlane
          · rw [bandOfNumber_none hb] at hband
            cases hband
          · omega
          · omega
        simp only [if_neg hout]
        exact State.answer_only _ _ _ _ _

/-! ## The Record Store -/

theorem exec_recordStoreDelivery_none {s : State} (h : s.mail.toStore = []) : exec .recordStoreDelivery s = .next s := by
  show execRecordStoreDelivery s = _
  rw [execRecordStoreDelivery, h]

theorem exec_recordStoreDelivery_some {s : State} {r : VehicleRecord} {rest : List VehicleRecord} (h : s.mail.toStore = r :: rest) :
    exec .recordStoreDelivery s = .next (State.storeRecord { s with mail := { s.mail with toStore := rest } } r) := by
  show execRecordStoreDelivery s = _
  rw [execRecordStoreDelivery, h]

/-- Settles O42: a record that fits joins, and the ready test follows; any other is dropped. -/
theorem storeTakesOrDrops : Obligations.StoreTakesOrDrops := by
  intro s
  refine ⟨exec_recordStoreDelivery_none, fun r rest hmail => ?_⟩
  intro held fits ready joined
  rw [exec_recordStoreDelivery_some hmail]
  have hfits : fits ↔ r.serial.isSome = true ∧ s.store.held.length < Config.storeCapacity := by
    rw [Option.isSome_iff_ne_none]
    rfl
  refine ⟨fun hfit hready => ?_, fun hfit hready => ?_, fun hfit => ?_⟩
  · rw [State.storeRecord, if_pos (hfits.1 hfit), State.joinRecord, State.readyTest_raises hready]
    rfl
  · rw [State.storeRecord, if_pos (hfits.1 hfit), State.joinRecord, State.readyTest_keeps hready]
  · rw [State.storeRecord, if_neg (mt hfits.2 hfit)]
    rfl

/-! ## Counting in a tally -/

/-- One bin of a list of counts goes up by one and the others are kept (R166). -/
theorem countBin_up (l : List Nat) (bin : Nat) :
    (countBin l bin).length = l.length ∧ (∀ n, l[bin]? = some n → (countBin l bin)[bin]? = some (min 65535 (n + 1))) ∧
    ∀ i, i ≠ bin → (countBin l bin)[i]? = l[i]? := by
  refine ⟨countBin_length l bin, fun n hn => ?_, fun i hi => ?_⟩
  · rw [countBin, List.getElem?_modify_eq, hn]
    rfl
  · rw [countBin, List.getElem?_modify_ne _ _ (Ne.symm hi)]

/-- The axle load bins after every axle of a record: each has gone up by the axles of its bin, no higher than 65 535. -/
theorem countAxles_bin (axles : List AxleEntry) (l : List Nat) {i n : Nat} (hn : l[i]? = some n) (hcap : n ≤ 65535) :
    (axles.foldl (fun l a => countBin l (binOf 1000 a.load)) l)[i]? =
      some (min 65535 (n + axles.countP fun a => min 15 (a.load / 1000) = i)) := by
  induction axles generalizing l n with
  | nil =>
    rw [List.foldl_nil, List.countP_nil, hn]
    exact congrArg some (by omega)
  | cons a rest ih =>
    rw [List.foldl_cons, List.countP_cons]
    obtain ⟨-, hup, hkeep⟩ := countBin_up l (binOf 1000 a.load)
    by_cases hbin : min 15 (a.load / 1000) = i
    · have hbin' : binOf 1000 a.load = i := hbin
      rw [hbin'] at hup ⊢
      rw [ih _ (hup n hn) (by omega), if_pos (by simpa using hbin)]
      exact congrArg some (by omega)
    · have hbin' : i ≠ binOf 1000 a.load := Ne.symm hbin
      rw [ih _ ((hkeep i hbin').trans hn) hcap, if_neg (by simpa using hbin)]
      rfl

theorem countAxles_length (axles : List AxleEntry) (l : List Nat) :
    (axles.foldl (fun l a => countBin l (binOf 1000 a.load)) l).length = l.length := by
  induction axles generalizing l with
  | nil => rfl
  | cons a rest ih => rw [List.foldl_cons, ih, countBin_length]

/-- A tally after a record whose quality is not GOOD keeps its load bins. -/
theorem Tally.record_load_bins (x : Tally) (r : VehicleRecord) :
    ((r.quality = .good → (x.record r).gvws = countBin x.gvws (binOf 5000 r.gvw) ∧
      (x.record r).axleLoads = r.axles.foldl (fun l a => countBin l (binOf 1000 a.load)) x.axleLoads) ∧
    (r.quality ≠ .good → (x.record r).gvws = x.gvws ∧ (x.record r).axleLoads = x.axleLoads)) := by
  refine ⟨fun h => ?_, fun h => ?_⟩ <;> simp [Tally.record, h]

theorem Tally.record_speeds_some (x : Tally) {r : VehicleRecord} {v : Nat} (h : r.speed = some v) :
    (x.record r).speeds = countBin x.speeds (min 15 (v / 100)) := by
  rw [Tally.record, h]
  rfl

theorem Tally.record_speeds_none (x : Tally) {r : VehicleRecord} (h : r.speed = none) : (x.record r).speeds = x.speeds := by
  rw [Tally.record, h]

/-- The single counts of a tally after a record (R167). -/
theorem Tally.record_counts (x : Tally) (r : VehicleRecord) :
    let y := x.record r
    y = { x with
      classes := y.classes, qualities := y.qualities, speeds := y.speeds, gvws := y.gvws, axleLoads := y.axleLoads
      axleOver := if r.quality = .good ∧ r.flags.axleOver = true then min 65535 (x.axleOver + 1) else x.axleOver
      gvwOver := if r.quality = .good ∧ r.flags.gvwOver = true then min 65535 (x.gvwOver + 1) else x.gvwOver
      laneBanned := if r.flags.laneBanned then min 65535 (x.laneBanned + 1) else x.laneBanned
      singleRow := min 65535 (x.singleRow + r.axles.countP fun a => a.row ≠ .both) } := by
  have hif : ∀ (flag : Bool) (n : Nat), countIf (decide (r.quality = .good) && flag) n =
      if r.quality = .good ∧ flag = true then min 65535 (n + 1) else n := by
    intro flag n
    unfold countIf
    simp only [Bool.and_eq_true, decide_eq_true_eq]
    rfl
  intro y
  simp only [← hif]
  rfl

theorem exec_tallyRecord_none {s : State} (h : s.mail.toTally = []) : exec .tallyRecord s = .next s := by
  show execTallyRecord s = _
  rw [execTallyRecord, h]

theorem exec_tallyRecord_some {s : State} {r : VehicleRecord} {rest : List VehicleRecord} (h : s.mail.toTally = r :: rest) :
    exec .tallyRecord s = .next (State.setTally { s with mail := { s.mail with toTally := rest } } r.lane
      ((s.tally.active.get r.lane).record r)) := by
  show execTallyRecord s = _
  rw [execTallyRecord, h]

theorem exec_tallyDrop_none {s : State} (h : s.mail.drops = []) : exec .tallyDrop s = .next s := by
  show execTallyDrop s = _
  rw [execTallyDrop, h]

theorem exec_tallyDrop_some {s : State} {ln : LaneId} {rest : List LaneId} (h : s.mail.drops = ln :: rest) :
    exec .tallyDrop s = .next (State.setTally { s with mail := { s.mail with drops := rest } } ln
      { s.tally.active.get ln with dropped := countUp (s.tally.active.get ln).dropped }) := by
  show execTallyDrop s = _
  rw [execTallyDrop, h]

/-- Settles O43: `Tally.record` bin by bin, by `countBin_up` and, for the axle loads, `countAxles_bin`. -/
theorem tallyCounts : Obligations.TallyCounts := by
  intro s up tallied oneUp
  refine ⟨fun tw => rfl, exec_tallyRecord_none, fun r rest hmail => ?_, exec_tallyDrop_none, fun ln rest hmail => ?_⟩
  · intro x isGood
    obtain ⟨hgood, hbad⟩ := x.record_load_bins r
    refine ⟨x.record r, exec_tallyRecord_some hmail, countBin_up _ _, countBin_up _ _, fun v hv => ?_, x.record_speeds_none,
      fun hg => ⟨?_, fun i n hn hcap => ?_⟩, hbad, ?_, x.record_counts r⟩
    · rw [x.record_speeds_some hv]
      exact countBin_up _ _
    · rw [(hgood hg).1]
      exact countBin_up _ _
    · rw [(hgood hg).2]
      exact countAxles_bin r.axles _ hn hcap
    · by_cases hg : r.quality = .good
      · rw [(hgood hg).2, countAxles_length]
      · rw [(hbad hg).2]
  · exact exec_tallyDrop_some hmail

/-! ## Releasing -/

theorem exec_recordRelease_eq (s : State) (tag : Byte) {n : Nat} (hn : n < 2 ^ 48) :
    exec (.recordRelease tag (leBytes 6 n)) s = .next (
      if s.store.unassigned n then s.answer 0x21 tag (leBytes 6 n) [codeBadValue]
      else State.answer { s with store := s.store.release n } 0x21 tag (leBytes 6 n)
        (codeOk :: (leBytes 2 (s.store.release n).held.length ++ optZero 6 (s.store.release n).oldest))) := by
  show execRecordRelease tag (leBytes 6 n) s = _
  rw [execRecordRelease, if_neg (by simp), leNat_leBytes, Nat.mod_eq_of_lt (b := 256 ^ 6) hn]

/-- A serial of six bytes is not yet assigned exactly when the counter has not passed it. -/
theorem RecordStore.unassigned_iff (st : RecordStore) {n : Nat} (hn : n < 2 ^ 48) :
    st.unassigned n = true ↔ ∃ c, st.serial = some c ∧ c ≤ n := by
  unfold RecordStore.unassigned
  cases st.serial with
  | none =>
    have hle : n ≤ Config.serialMax := Nat.le_of_lt_succ hn
    simpa using hle
  | some c => simp

/-- The store after a release: what lies above the serial, the notice armed again below the threshold (R164, R165). -/
theorem RecordStore.release_eq (st : RecordStore) (n : Nat) :
    let held := st.held.filter fun r => r.serial.any fun m => decide (n < m)
    st.release n = { st with held := held, armed := if held.length < st.threshold then true else st.armed } := by
  intro held
  show RecordStore.rearm { st with held := held } = _
  unfold RecordStore.rearm
  by_cases h : held.length < st.threshold
  · rw [if_pos h, if_pos h]
  · rw [if_neg h, if_neg h]

theorem exec_tallyRelease_none {s : State} (tag : Byte) (h : s.tally.queue = []) :
    exec (.tallyRelease tag []) s = .next (s.answer 0x23 tag [] [codeNotFound]) := by
  show execTallyRelease tag [] s = _
  rw [execTallyRelease, if_neg (by simp), h]

theorem exec_tallyRelease_some {s : State} (tag : Byte) {e : TallyEntry} {rest : List TallyEntry} (h : s.tally.queue = e :: rest) :
    exec (.tallyRelease tag []) s = .next (State.answer { s with tally := { s.tally with queue := rest } } 0x23 tag []
      (codeOk :: codeByte rest.length)) := by
  show execTallyRelease tag [] s = _
  rw [execTallyRelease, if_neg (by simp), h]

/-- Settles O44: a serial is refused by `RecordStore.unassigned_iff`, and released by `RecordStore.release_eq`. -/
theorem releasesFreeTheOldest : Obligations.ReleasesFreeTheOldest := by
  intro s tag
  refine ⟨fun n hn hassigned => ?_, fun n hn hfree => ?_, fun hqueue => ?_, fun e rest hqueue => ?_⟩
  · refine ⟨_, exec_recordRelease_eq s tag hn, ?_⟩
    rw [if_pos ((s.store.unassigned_iff hn).2 hassigned)]
    exact State.answer_only _ _ _ _ _
  · intro held
    have hassigned : ¬ s.store.unassigned n = true := by
      rw [s.store.unassigned_iff hn]
      rintro ⟨c, hc, hle⟩
      exact absurd (hfree c hc) (by omega)
    refine ⟨_, exec_recordRelease_eq s tag hn, ?_⟩
    rw [if_neg hassigned, s.store.release_eq n]
    exact State.answer_only _ _ _ _ _
  · exact ⟨_, exec_tallyRelease_none tag hqueue, State.answer_only _ _ _ _ _⟩
  · exact ⟨_, exec_tallyRelease_some tag hqueue, State.answer_only _ _ _ _ _⟩

end Sys2Proof.Machine
end

section
/-! The Crossing Matcher (O17 to O21): pairing within the window, resolution across an inner edge, the pending queue, the two
expiries, and the delivery of axles in time order. -/

namespace Sys2Proof.Machine

/-! ## Sides, distances and the first entry that qualifies -/

theorem PulseReport.side_left_iff (r : PulseReport) : r.side = .left ↔ r.channel.strip.val % 2 = 0 := by
  unfold PulseReport.side sideOf
  by_cases h : r.channel.strip.val % 2 = 0
  · simp [h]
  · simp [h]

theorem PulseReport.side_right_iff (r : PulseReport) : r.side = .right ↔ r.channel.strip.val % 2 = 1 := by
  unfold PulseReport.side sideOf
  by_cases h : r.channel.strip.val % 2 = 0
  · simp [h]
  · rw [if_neg h]
    exact iff_of_true rfl (by omega)

/-- A report stands on the other side of a row exactly when the two half-strips' parities differ. -/
theorem PulseReport.side_other_iff (e r : PulseReport) :
    e.side = r.side.other ↔ e.channel.strip.val % 2 ≠ r.channel.strip.val % 2 := by
  cases hr : r.side with
  | left =>
    have hpar := r.side_left_iff.1 hr
    rw [Side.other, e.side_right_iff]
    omega
  | right =>
    have hpar := r.side_right_iff.1 hr
    rw [Side.other, e.side_left_iff]
    omega

theorem PulseReport.side_eq_sideOf_iff (e : PulseReport) (p : Strip) : e.side = sideOf p ↔ e.channel.strip.val % 2 = p.val % 2 := by
  unfold PulseReport.side sideOf
  by_cases h : e.channel.strip.val % 2 = 0 <;> by_cases hp : p.val % 2 = 0 <;> simp [h, hp] <;> omega

theorem tickDist_le_iff (a b : Tick) (n : Nat) : tickDist a b ≤ n ↔ ticksSince a b ≤ n ∨ ticksSince b a ≤ n := min_le_iff

/-- The first entry that qualifies is taken, and the others keep their order. -/
theorem takeFirst_split {α : Type} {p : α → Bool} {before after : List α} {e : α} (he : p e = true)
    (hbefore : ∀ f ∈ before, ¬ p f = true) : takeFirst p (before ++ e :: after) = some (e, before ++ after) := by
  induction before with
  | nil => rw [List.nil_append, takeFirst, if_pos he, List.nil_append]
  | cons f fs ih =>
    rw [List.cons_append, takeFirst, if_neg (hbefore f List.mem_cons_self),
      ih fun g hg => hbefore g (List.mem_cons_of_mem f hg)]
    rfl

theorem takeFirst_none {α : Type} {p : α → Bool} {l : List α} (h : ∀ f ∈ l, ¬ p f = true) : takeFirst p l = none := by
  induction l with
  | nil => rfl
  | cons f fs ih =>
    rw [takeFirst, if_neg (h f List.mem_cons_self), ih fun g hg => h g (List.mem_cons_of_mem f hg)]
    rfl

/-- The matcher's test for a partner of r: an entry of the other side within n ticks of its onset (R38, R41). -/
def PulseReport.pairs (r : PulseReport) (n : Nat) (e : PulseReport) : Bool :=
  e.side = r.side.other && tickDist e.onset r.onset ≤ n

theorem partner_iff (e r : PulseReport) (n : Nat) :
    r.pairs n e = true ↔
      e.channel.strip.val % 2 ≠ r.channel.strip.val % 2 ∧
        (ticksSince e.onset r.onset ≤ n ∨ ticksSince r.onset e.onset ≤ n) := by
  rw [PulseReport.pairs, Bool.and_eq_true, decide_eq_true_eq, decide_eq_true_eq, PulseReport.side_other_iff, tickDist_le_iff]

/-! ## A report reaches the matcher -/

theorem exec_pulseReport_some {s : State} {r : PulseReport} {rest : List PulseReport} (h : s.mail.reports = r :: rest) :
    exec .pulseReport s = .next (State.takeReport { s with mail := { s.mail with reports := rest } } r) := by
  show execPulseReport s = _
  rw [execPulseReport, h]

section
variable {s : State} {r : PulseReport} {w : LaneItem}

theorem State.takeReport_out (h : (s.asm r.channel.lane).service = .out) : s.takeReport r = s := by
  rw [State.takeReport, h]

theorem State.takeReport_in (h : (s.asm r.channel.lane).service = .inService) (hw : (s.asm r.channel.lane).working = some w) :
    s.takeReport r = lanesAdopt (s.matchPulse w r) := by
  rw [State.takeReport, h, hw]
  exact State.settle_eq _

/-- The crossing of a partner and a report, with the wheels on their sides (R38). -/
theorem pairCrossing_eq (ln : LaneId) (row : Row) {e : PulseReport}
    (he : e.channel.strip.val % 2 ≠ r.channel.strip.val % 2) :
    pairCrossing ln row e r =
      { lane := ln, row := row, onset := if tickBefore r.onset e.onset then r.onset else e.onset
        left := some (if r.channel.strip.val % 2 = 0 then r else e)
        right := some (if r.channel.strip.val % 2 = 0 then e else r)
        straddle := false, missingSide := false } := by
  unfold pairCrossing
  by_cases hr : r.channel.strip.val % 2 = 0
  · have hleft : e.side ≠ .left := fun h => he ((e.side_left_iff.1 h).trans hr.symm)
    rw [if_neg hleft, if_pos hr, if_pos hr]
  · have hleft : e.side = .left := e.side_left_iff.2 (by omega)
    rw [if_pos hleft, if_neg hr, if_neg hr]

/-- A report with a partner in its row's list pairs with the first one (R38). -/
theorem State.matchPulse_pairs {before after : List PulseReport} {e : PulseReport}
    (hlist : (s.matcher r.channel.lane).list r.row = before ++ e :: after)
    (he : r.pairs w.pairWindow e = true)
    (hbefore : ∀ f ∈ before, ¬ r.pairs w.pairWindow f = true) :
    s.matchPulse w r = (s.setHalfList r.channel.lane r.row (before ++ after)).formCrossing
      (pairCrossing r.channel.lane r.row e r) := by
  have hfirst : takeFirst (r.pairs w.pairWindow) ((s.matcher r.channel.lane).list r.row) = some (e, before ++ after) := by
    rw [hlist]
    exact takeFirst_split he hbefore
  unfold PulseReport.pairs at hfirst
  simp only [State.matchPulse, hfirst]

/-- A report without one joins the list (R39). -/
theorem State.matchPulse_holds
    (h : ∀ f ∈ (s.matcher r.channel.lane).list r.row,
      ¬ r.pairs w.pairWindow f = true) :
    s.matchPulse w r = s.holdPulse r.channel.lane r.row r := by
  have hfirst := takeFirst_none h
  unfold PulseReport.pairs at hfirst
  simp only [State.matchPulse, hfirst]

theorem State.holdPulse_joins {ln : LaneId} {row : Row} (h : ((s.matcher ln).list row).length < 4) :
    s.holdPulse ln row r = s.joinList ln row r := by
  unfold State.holdPulse
  cases hlist : (s.matcher ln).list row with
  | nil => rfl
  | cons head rest =>
    rw [hlist, List.length_cons] at h
    exact if_pos h

theorem State.holdPulse_resolves {ln : LaneId} {row : Row} {head : PulseReport} {rest : List PulseReport}
    (hlist : (s.matcher ln).list row = head :: rest) (hfull : rest.length = 3) :
    s.holdPulse ln row r = ((s.setHalfList ln row rest).resolve ln row head).joinList ln row r := by
  unfold State.holdPulse
  simp only [hlist]
  exact if_neg (by rw [hfull]; decide)

end

/-- Settles O17: `State.matchPulse` by whether the list holds a partner, and `State.holdPulse` by whether it is full. -/
theorem pulsePairsOrWaits : Obligations.PulsePairsOrWaits := by
  intro s r reports hmail ln row list s'
  rw [exec_pulseReport_some hmail]
  refine ⟨fun hout => congrArg Host.Outcome.next (State.takeReport_out hout), fun w hin hw => ?_⟩
  rw [State.takeReport_in (s := s') hin hw]
  refine ⟨fun before e after hlist he hbefore => ?_, fun hnone => ⟨fun hroom => ?_, fun head tail hlist hfull => ?_⟩⟩
  · rw [State.matchPulse_pairs (s := s') hlist ((partner_iff e r _).2 he) fun f hf => mt (partner_iff f r _).1 (hbefore f hf),
      pairCrossing_eq _ _ he.1]
    rfl
  · rw [State.matchPulse_holds (s := s') fun f hf => mt (partner_iff f r _).1 (hnone f hf), 
      State.holdPulse_joins (s := s') (ln := r.channel.lane) (row := r.row) hroom]
    rfl
  · rw [State.matchPulse_holds (s := s') fun f hf => mt (partner_iff f r _).1 (hnone f hf),
      State.holdPulse_resolves (s := s') (ln := r.channel.lane) (row := r.row) hlist hfull]
    rfl

/-! ## Resolution across an inner edge -/

/-- Adjoining lanes are neighbours: the upper one lies across the right edge of the lower one (R41). -/
theorem adjoining_neighbours {low up : LaneId} (h : up.val = low.val + 1) :
    adjoining low .right = some up ∧ adjoining up .left = some low := by
  revert low up
  decide

theorem adjoining_right {ln other : LaneId} (h : adjoining ln .right = some other) : other.val = ln.val + 1 := by
  revert ln other
  decide

theorem adjoining_left {ln other : LaneId} (h : adjoining ln .left = some other) : ln.val = other.val + 1 := by
  revert ln other
  decide

section
variable {s : State} {ln other : LaneId} {row : Row} {r : PulseReport} {w : LaneItem}

/-- The first entry of the adjoining side within the lower lane's window is the partner (R41). -/
theorem State.straddlePartner_some {before after : List PulseReport} {e : PulseReport} (hedge : adjoining ln r.side = some other)
    (hw : (s.asm (lowerLane ln other r.side)).working = some w) (hlist : (s.matcher other).list row = before ++ e :: after)
    (he : r.pairs w.pairWindow e = true)
    (hbefore : ∀ f ∈ before, ¬ r.pairs w.pairWindow f = true) :
    s.straddlePartner ln row r = some (other, e, before ++ after) := by
  have hfirst : takeFirst (r.pairs w.pairWindow) ((s.matcher other).list row) = some (e, before ++ after) := by
    rw [hlist]
    exact takeFirst_split he hbefore
  unfold PulseReport.pairs at hfirst
  simp only [State.straddlePartner, hedge, hw, hfirst, Option.map_some]

/-- With no such entry there is none. -/
theorem State.straddlePartner_none (h : ∀ other, adjoining ln r.side = some other →
    ∀ w, (s.asm (lowerLane ln other r.side)).working = some w → ∀ f ∈ (s.matcher other).list row,
      ¬ r.pairs w.pairWindow f = true) :
    s.straddlePartner ln row r = none := by
  unfold State.straddlePartner
  cases hedge : adjoining ln r.side with
  | none => rfl
  | some other =>
    cases hw : (s.asm (lowerLane ln other r.side)).working with
    | none => simp only [hw]
    | some w =>
      have hfirst := takeFirst_none (h other hedge w hw)
      unfold PulseReport.pairs at hfirst
      simp only [hw, hfirst, Option.map_none]

/-- A resolved entry with a partner forms the straddle crossing of the lower lane (R41). -/
theorem State.resolve_straddles {e : PulseReport} {rest : List PulseReport}
    (h : s.straddlePartner ln row r = some (other, e, rest)) :
    s.resolve ln row r = (s.setHalfList other row rest).formCrossing
      (if r.side = .right then straddleCrossing (lowerLane ln other r.side) row r e
        else straddleCrossing (lowerLane ln other r.side) row e r) := by
  rw [State.resolve, h]

theorem State.resolve_alone (h : s.straddlePartner ln row r = none) :
    s.resolve ln row r = s.formCrossing (s.singleCrossing ln row r) := by
  rw [State.resolve, h]

/-- A single-wheel crossing in the words of the rules (R42). -/
theorem State.singleCrossing_eq :
    let isLeft := r.channel.strip.val % 2 = 0
    let absent : ChannelId := ⟨ln, match row, decide isLeft with
      | .one, true => 1 | .one, false => 0 | .two, true => 3 | .two, false => 2⟩
    s.singleCrossing ln row r =
      { lane := ln, row := row, onset := r.onset, left := if isLeft then some r else none
        right := if isLeft then none else some r, straddle := false, missingSide := !(s.unit absent).running } := by
  intro isLeft absent
  have habsent : (⟨ln, stripOf row r.side.other⟩ : ChannelId) = absent := by
    by_cases h : isLeft
    · rw [r.side_left_iff.2 h]
      simp only [absent, h, decide_true]
      cases row <;> rfl
    · rw [r.side_right_iff.2 (Nat.mod_two_ne_zero.1 h)]
      simp only [absent, h, decide_false]
      cases row <;> rfl
  unfold State.singleCrossing
  simp only [habsent, PulseReport.side_left_iff]
  rfl

end

/-- Settles O18: the partner is the first of the adjoining side within the lower lane's window; without one the entry stands
alone. -/
theorem resolvedEntryStraddlesOrStandsAlone : Obligations.ResolvedEntryStraddlesOrStandsAlone := by
  intro s row r
  refine ⟨fun low up w before after e hnext hw => ?_, fun ln => ?_⟩
  · intro near
    obtain ⟨hright, hleft⟩ := adjoining_neighbours hnext
    refine ⟨fun hr hlist he hnear hbefore => ?_, fun hr hlist he hnear hbefore => ?_⟩
    · have hside := r.side_right_iff.2 hr
      have htest : ∀ f : PulseReport, r.pairs w.pairWindow f = true ↔
          f.channel.strip.val % 2 = 0 ∧ near f := fun f => by
        rw [partner_iff]
        exact and_congr_left fun _ => by omega
      have hlower : lowerLane low up r.side = low := by rw [hside]; rfl
      rw [State.resolve_straddles (State.straddlePartner_some (w := w) (by rw [hside]; exact hright) (by rw [hlower]; exact hw) hlist
        ((htest e).2 ⟨he, hnear⟩) fun f hf => mt (htest f).1 (hbefore f hf)), if_pos hside, hlower]
      rfl
    · have hside := r.side_left_iff.2 hr
      have htest : ∀ f : PulseReport, r.pairs w.pairWindow f = true ↔
          f.channel.strip.val % 2 = 1 ∧ near f := fun f => by
        rw [partner_iff]
        exact and_congr_left fun _ => by omega
      have hlower : lowerLane up low r.side = low := by rw [hside]; rfl
      rw [State.resolve_straddles (State.straddlePartner_some (w := w) (by rw [hside]; exact hleft) (by rw [hlower]; exact hw) hlist
        ((htest e).2 ⟨he, hnear⟩) fun f hf => mt (htest f).1 (hbefore f hf)), if_neg (by rw [hside]; decide), hlower]
      rfl
  · intro isLeft absent hnone
    refine (State.resolve_alone ?_).trans (congrArg s.formCrossing State.singleCrossing_eq)
    refine State.straddlePartner_none fun other hedge w hw f hf htest => ?_
    obtain ⟨hparity, hnear⟩ := (partner_iff f r _).1 htest
    have hadjoin : (if isLeft then ln.val = other.val + 1 else other.val = ln.val + 1) ∧
        lowerLane ln other r.side = if isLeft then other else ln := by
      by_cases h : isLeft
      · rw [if_pos h, if_pos h, r.side_left_iff.2 h] at *
        exact ⟨adjoining_left hedge, rfl⟩
      · rw [if_neg h, if_neg h, r.side_right_iff.2 (Nat.mod_two_ne_zero.1 h)] at *
        exact ⟨adjoining_right hedge, rfl⟩
    rw [hadjoin.2] at hw
    obtain ⟨hfar, hfar'⟩ := hnone other hadjoin.1 w hw f hf hparity
    omega

/-! ## Crossings go on -/

section
variable {s : State} {c : Crossing}

theorem State.formCrossing_one (h : c.row = .one) : s.formCrossing c = s.joinQueue c.lane c := by
  rw [State.formCrossing, h]

theorem State.formCrossing_two (h : c.row = .two) : s.formCrossing c = s.judgeRow2 c.lane c := by
  rw [State.formCrossing, h]

theorem State.joinQueue_joins {ln : LaneId} (h : (s.matcher ln).queue.length < 8) :
    s.joinQueue ln c = s.setMatcher ln { s.matcher ln with queue := insertBy Crossing.onset c (s.matcher ln).queue } := by
  unfold State.joinQueue
  cases hq : (s.matcher ln).queue with
  | nil => rfl
  | cons head rest =>
    rw [hq] at h
    exact if_pos h

theorem State.joinQueue_full {ln : LaneId} {head : Crossing} {rest : List Crossing} (hq : (s.matcher ln).queue = head :: rest)
    (hfull : rest.length = 7) :
    s.joinQueue ln c = if tickBefore c.onset head.onset then s.deliver ln (rowOneAxle ln c)
      else (s.setMatcher ln { s.matcher ln with queue := insertBy Crossing.onset c rest }).deliver ln (rowOneAxle ln head) := by
  unfold State.joinQueue
  simp only [hq]
  exact if_neg (by rw [List.length_cons, hfull]; decide)

/-- A row-2 crossing with nothing pending is an orphan (R46). -/
theorem State.judgeRow2_nil {ln : LaneId} {w : LaneItem} {win : Windows} (hw : (s.asm ln).working = some w)
    (hwin : (s.matcher ln).windows = some win) (hq : (s.matcher ln).queue = []) :
    s.judgeRow2 ln c = s.deliver ln (orphanAxle ln w s.tb.nRef (s.asm ln).borrowed c) := by
  unfold State.judgeRow2
  simp only [hw, hwin, hq]

/-- A row-2 crossing is judged against the oldest pending one (R46). -/
theorem State.judgeRow2_cons {ln : LaneId} {w : LaneItem} {win : Windows} {head : Crossing} {rest : List Crossing}
    (hw : (s.asm ln).working = some w) (hwin : (s.matcher ln).windows = some win) (hq : (s.matcher ln).queue = head :: rest) :
    s.judgeRow2 ln c =
      if tooEarly win head c then s.deliver ln (orphanAxle ln w s.tb.nRef (s.asm ln).borrowed c)
      else (s.setMatcher ln { s.matcher ln with queue := rest }).deliver ln (matchAxle ln w s.tb.nRef head c) := by
  unfold State.judgeRow2
  simp only [hw, hwin, hq]

theorem tooEarly_iff (win : Windows) (c1 c2 : Crossing) :
    tooEarly win c1 c2 = true ↔ ticksSince c2.onset c1.onset < win.dtMin ∨ 2 ^ 31 ≤ ticksSince c2.onset c1.onset := by
  unfold tooEarly
  rw [Bool.or_eq_true, decide_eq_true_eq, decide_eq_true_eq, or_comm]

/-- The borrowed speed as a choice between the vehicle's last own speed and the held speed (R81). -/
theorem Assembler.borrowed_eq (a : Assembler) :
    a.borrowed = match a.context.bind Context.lastOwn with
      | some v => v
      | none => a.heldSpeed := by
  unfold Assembler.borrowed
  cases a.context.bind Context.lastOwn <;> rfl

end

/-- Settles O19: `State.joinQueue` by the length of the queue, `State.judgeRow2` by its head and `tooEarly_iff`. -/
theorem crossingQueuesOrMatches : Obligations.CrossingQueuesOrMatches := by
  intro s c m onlyRow1
  refine ⟨fun hrow => ?_, fun w win hrow hw hwin => ?_⟩
  · rw [State.formCrossing_one hrow]
    refine ⟨fun hroom => State.joinQueue_joins hroom, fun head rest hq hfull => ?_⟩
    rw [State.joinQueue_full hq hfull]
    exact ⟨fun hbefore => if_pos hbefore, fun hbefore => if_neg (by rw [hbefore]; decide)⟩
  · intro speed orphan
    have horphan : orphanAxle c.lane w s.tb.nRef (s.asm c.lane).borrowed c = orphan := by
      rw [Assembler.borrowed_eq]
      rfl
    rw [State.formCrossing_two hrow]
    refine ⟨fun hq => ?_, fun head rest hq => ?_⟩
    · rw [State.judgeRow2_nil hw hwin hq, horphan]
    · rw [State.judgeRow2_cons hw hwin hq, horphan]
      refine ⟨fun hearly => if_pos ((tooEarly_iff win head c).2 hearly), fun hlow hhigh => if_neg fun hearly => ?_⟩
      have := (tooEarly_iff win head c).1 hearly
      omega

/-! ## Expiries -/

section
variable {s : State}

theorem exec_holdExpiry_due {ch : ChannelId} {e : PulseReport} {rest : List PulseReport} (h : s.holdDue ch = some (e, rest)) :
    exec (.holdExpiry ch) s =
      .next (lanesAdopt ((s.setHalfList ch.lane (rowOf ch.strip) rest).resolve ch.lane (rowOf ch.strip) e)) := by
  show execHoldExpiry ch s = _
  rw [execHoldExpiry, h, ← State.settle_eq]

theorem exec_holdExpiry_idle {ch : ChannelId} (h : s.holdDue ch = none) : exec (.holdExpiry ch) s = .next s := by
  show execHoldExpiry ch s = _
  rw [execHoldExpiry, h]

theorem exec_pendingExpiry_due {ln : LaneId} {head : Crossing} {rest : List Crossing} (h : s.pendingDue ln = some (head, rest)) :
    exec (.pendingExpiry ln) s =
      .next (lanesAdopt ((s.setMatcher ln { s.matcher ln with queue := rest }).deliver ln (rowOneAxle ln head))) := by
  show execPendingExpiry ln s = _
  rw [execPendingExpiry, h, ← State.settle_eq]

theorem exec_pendingExpiry_idle {ln : LaneId} (h : s.pendingDue ln = none) : exec (.pendingExpiry ln) s = .next s := by
  show execPendingExpiry ln s = _
  rw [execPendingExpiry, h]

/-- The held pulse of a channel that is due is the first of its side, once it has waited more than H (R40). -/
theorem State.holdDue_first {ch : ChannelId} {w : LaneItem} {before after : List PulseReport} {e : PulseReport}
    (hw : (s.asm ch.lane).working = some w) (hlist : (s.matcher ch.lane).list (rowOf ch.strip) = before ++ e :: after)
    (he : e.channel.strip.val % 2 = ch.strip.val % 2) (hbefore : ∀ f ∈ before, f.channel.strip.val % 2 ≠ ch.strip.val % 2) :
    s.holdDue ch = if w.hold < ticksSince s.tb.t e.ended then some (e, before ++ after) else none := by
  have hfirst : takeFirst (fun e => decide (e.side = sideOf ch.strip)) ((s.matcher ch.lane).list (rowOf ch.strip)) =
      some (e, before ++ after) := by
    rw [hlist]
    refine takeFirst_split (by simpa using (e.side_eq_sideOf_iff ch.strip).2 he) fun f hf => ?_
    simpa using mt (f.side_eq_sideOf_iff ch.strip).1 (hbefore f hf)
  unfold State.holdDue
  simp only [hw, hfirst]

theorem State.holdDue_none {ch : ChannelId}
    (h : ∀ f ∈ (s.matcher ch.lane).list (rowOf ch.strip), f.channel.strip.val % 2 ≠ ch.strip.val % 2) : s.holdDue ch = none := by
  have hfirst : takeFirst (fun e => decide (e.side = sideOf ch.strip)) ((s.matcher ch.lane).list (rowOf ch.strip)) = none :=
    takeFirst_none fun f hf => by simpa using mt (f.side_eq_sideOf_iff ch.strip).1 (h f hf)
  unfold State.holdDue
  rw [hfirst]
  cases (s.asm ch.lane).working <;> rfl

theorem State.pendingDue_nil {ln : LaneId} (h : (s.matcher ln).queue = []) : s.pendingDue ln = none := by
  unfold State.pendingDue
  rw [h]
  cases (s.matcher ln).windows <;> rfl

theorem State.pendingDue_cons {ln : LaneId} {win : Windows} {head : Crossing} {rest : List Crossing}
    (hwin : (s.matcher ln).windows = some win) (hq : (s.matcher ln).queue = head :: rest) :
    s.pendingDue ln = if win.dtMax < ticksSince s.tb.t head.onset then some (head, rest) else none := by
  unfold State.pendingDue
  simp only [hwin, hq]

end

/-- Settles O20: what is due is the first of its list and has waited longer than its limit; otherwise nothing is. -/
theorem waitingEntriesExpire : Obligations.WaitingEntriesExpire := by
  refine ⟨fun s ch w hw => ?_, fun s ln => ⟨fun hq => ?_, fun win head rest hwin hq => ⟨fun hlate => ?_, fun hwaits => ?_⟩⟩⟩
  · intro row list
    refine ⟨fun before e after hlist he hbefore => ⟨fun hlate => ?_, fun hwaits => ?_⟩, fun hnone => ?_⟩
    · exact exec_holdExpiry_due ((State.holdDue_first hw hlist he hbefore).trans (if_pos hlate))
    · exact exec_holdExpiry_idle ((State.holdDue_first hw hlist he hbefore).trans (if_neg (by omega)))
    · exact exec_holdExpiry_idle (State.holdDue_none hnone)
  · exact exec_pendingExpiry_idle (State.pendingDue_nil hq)
  · exact exec_pendingExpiry_due ((State.pendingDue_cons hwin hq).trans (if_pos hlate))
  · exact exec_pendingExpiry_idle ((State.pendingDue_cons hwin hq).trans (if_neg (by omega)))

/-! ## Delivery in time order -/

theorem State.captureOpen_matcher (s : State) (ln k : LaneId) (time : Tick) :
    (s.captureOpen ln time).matcher k = s.matcher k := (State.captureOpen_lanes s ln time).matcher k

/-- An adoption changes no delivery mark: of the matcher it sets the windows alone (R44, R75). -/
theorem State.adopt_mark (s : State) (ln k : LaneId) : ((s.adopt ln).matcher k).mark = (s.matcher k).mark := by
  cases hg : s.tables.active with
  | none => rw [State.adopt_none hg]
  | some g =>
    by_cases hk : k = ln
    · rw [hk, State.adopt_matcher hg]
    · rw [State.adopt_matcher_ne hg hk]

theorem State.adoptAtSplit_mark (s : State) (ln k : LaneId) : ((s.adoptAtSplit ln).matcher k).mark = (s.matcher k).mark := by
  unfold State.adoptAtSplit State.adoptIfQuiet
  split
  · split
    · exact s.adopt_mark ln k
    · rfl
  · rfl

theorem State.close_matcher (s : State) (ln k : LaneId) (ctx : Context) (tailgate timeout : Bool) :
    (s.close ln ctx tailgate timeout).matcher k = s.matcher k := s.matcher_setAsm ln k _

theorem State.openVehicle_matcher (s : State) (ln k : LaneId) (axle : Axle) (split : Bool) :
    (s.openVehicle ln axle split).matcher k = s.matcher k := by
  unfold State.openVehicle
  cases hg : (s.asm ln).adopted with
  | none => simp only [hg]
  | some g =>
    simp only [hg]
    exact (State.captureOpen_matcher _ ln k _).trans (s.matcher_setAsm ln k _)

/-- An axle that reaches the assembler changes no delivery mark. -/
theorem State.takeAxle_mark (s : State) (ln k : LaneId) (axle : Axle) :
    ((s.takeAxle ln axle).matcher k).mark = (s.matcher k).mark := by
  have hsplit : ∀ ctx tailgate timeout split,
      ((((s.close ln ctx tailgate timeout).adoptAtSplit ln).openVehicle ln axle split).matcher k).mark = (s.matcher k).mark := by
    intro ctx tailgate timeout split
    rw [State.openVehicle_matcher, State.adoptAtSplit_mark, State.close_matcher]
  unfold State.takeAxle
  split
  · rw [State.openVehicle_matcher]
  · unfold State.nextAxle
    dsimp only
    split
    · exact hsplit _ _ _ _
    · split
      · exact hsplit _ _ _ _
      · rw [State.matcher_setAsm]
  · rfl

/-- The time an axle is delivered with, in the words of the rule (R51). -/
theorem deliveredTime_eq (mark : Option Tick) (time : Tick) :
    deliveredTime mark time = match mark with
      | some m => if 1 ≤ ticksSince m time ∧ ticksSince m time < 2 ^ 31 then m else time
      | none => time := by
  unfold deliveredTime tickBefore
  cases mark with
  | none => rfl
  | some m => simp only [Bool.and_eq_true, decide_eq_true_eq]

theorem State.deliver_mark (s : State) (ln : LaneId) (axle : Axle) :
    ((s.deliver ln axle).matcher ln).mark = some (deliveredTime (s.matcher ln).mark axle.time) := by
  unfold State.deliver
  rw [State.takeAxle_mark, State.matcher_setMatcher]

theorem exec_deliveryMarkLapse_eq (s : State) (ln : LaneId) : exec (.deliveryMarkLapse ln) s =
    .next (if s.markDue ln then s.setMatcher ln { s.matcher ln with mark := none } else s) := rfl

theorem State.markDue_iff (s : State) (ln : LaneId) :
    s.markDue ln = true ↔ ∃ m, (s.matcher ln).mark = some m ∧ 2 ^ 30 ≤ ticksSince s.tb.t m := by
  unfold State.markDue
  cases (s.matcher ln).mark with
  | none => simp
  | some m => exact decide_eq_true_iff.trans ⟨fun h => ⟨m, rfl, h⟩, fun ⟨_, hm, h⟩ => Option.some.inj hm ▸ h⟩

/-- Settles O21: `State.deliver` raises the time to the mark, which no assembler touches; the mark lapses by `State.markDue_iff`. -/
theorem axlesLeaveInTimeOrder : Obligations.AxlesLeaveInTimeOrder := by
  intro s ln
  refine ⟨fun axle => ?_, fun m hm hlapsed => ?_, fun hfresh => ?_⟩
  · intro time
    have htime : deliveredTime (s.matcher ln).mark axle.time = time := deliveredTime_eq _ _
    rw [← htime]
    exact ⟨rfl, s.deliver_mark ln axle⟩
  · rw [exec_deliveryMarkLapse_eq, if_pos ((s.markDue_iff ln).2 ⟨m, hm, hlapsed⟩)]
  · rw [exec_deliveryMarkLapse_eq, if_neg]
    rw [s.markDue_iff]
    rintro ⟨m, hm, hlapsed⟩
    exact absurd (hfresh m hm) (by omega)

end Sys2Proof.Machine
end

section
/-! The Vehicle Assembler: opening, joining and splitting (O22), closing by silence or time (O23), and what the adoption of a
generation by a quiet lane comes to (O25). -/

namespace Sys2Proof.Machine

/-! ## Opening -/

/-- The context that an axle opens: what the device holds at that moment (R79). -/
def State.opened (s : State) (ln : LaneId) (axle : Axle) (g : Generation) (heldSpeed : Nat) (split : Bool) : Context :=
  { generation := g, tw := s.temp.tw, held := s.temp.held, band := bandOf s.temp.tw
    kd := (s.driftBand ln (bandOf s.temp.tw)).kd, openTick := s.tb.t, lastTick := s.tb.t, fell := false, split := split
    axles := [{ axle := axle, eff := axle.ownSpeed.getD heldSpeed, spacing := none }] }

theorem State.opened_congr {s u : State} (htb : u.tb = s.tb) (htemp : u.temp = s.temp) (hdrift : u.drift = s.drift) (ln : LaneId)
    (axle : Axle) (g : Generation) (heldSpeed : Nat) (split : Bool) :
    u.opened ln axle g heldSpeed split = s.opened ln axle g heldSpeed split := by
  simp only [State.opened, State.driftBand, htb, htemp, hdrift]

theorem State.openVehicle_eq {s : State} {ln : LaneId} {g : Generation} (hg : (s.asm ln).adopted = some g) (axle : Axle)
    (split : Bool) :
    s.openVehicle ln axle split = (s.setAsm ln { s.asm ln with
      context := some (s.opened ln axle g (s.asm ln).heldSpeed split) }).captureOpen ln axle.time := by
  unfold State.openVehicle
  simp only [hg]
  rfl

/-! ## Closing and splitting -/

theorem vehicleClosed_asm (s : State) (ln : LaneId) (ctx : Context) (tailgate timeout : Bool) :
    (vehicleClosed s ln ctx tailgate timeout).asm ln = { s.asm ln with
      context := none
      heldSpeed :=
        let own := ctx.axles.filterMap fun x => x.axle.ownSpeed
        if own = [] then (s.asm ln).heldSpeed else max 2778 (min 55556 (roundNat own.sum own.length)) } :=
  s.asm_setAsm ln _

theorem vehicleClosed_frame (s : State) (ln : LaneId) (ctx : Context) (tailgate timeout : Bool) :
    TrafficFrame s (vehicleClosed s ln ctx tailgate timeout) := by
  rw [← State.close_eq]
  exact s.close_frame ln ctx tailgate timeout

theorem splitAdopts_frame (s : State) (ln : LaneId) : TrafficFrame s (splitAdopts s ln) := by
  rw [← State.adoptAtSplit_eq]
  exact s.adoptAtSplit_frame ln

/-- A lane in service that adopts keeps its held speed (R82). -/
theorem State.adopt_heldSpeed {s : State} {ln : LaneId} (h : (s.asm ln).service = .inService) :
    ((s.adopt ln).asm ln).heldSpeed = (s.asm ln).heldSpeed := by
  cases hg : s.tables.active with
  | none => rw [State.adopt_none hg]
  | some g =>
    rw [State.adopt_asm hg]
    exact if_neg fun hout => by rw [h] at hout; cases hout.1

theorem splitAdopts_heldSpeed {s : State} {ln : LaneId} (h : (s.asm ln).service = .inService) :
    ((splitAdopts s ln).asm ln).heldSpeed = (s.asm ln).heldSpeed := by
  rw [← State.adoptAtSplit_eq]
  unfold State.adoptAtSplit State.adoptIfQuiet
  split
  · split
    · exact State.adopt_heldSpeed h
    · rfl
  · rfl

/-- The spacing stored on the last axle of a list, the new one behind it (R86). -/
theorem joinAxle_append (spacing : Nat) (x last : ContextAxle) (front : List ContextAxle) :
    joinAxle spacing x (front ++ [last]) = front ++ [{ last with spacing := some spacing }, x] := by
  induction front with
  | nil => rfl
  | cons p rest ih =>
    cases rest with
    | nil => rfl
    | cons q rest =>
      rw [List.cons_append] at ih
      rw [List.cons_append, List.cons_append, joinAxle, ih]
      rfl

section
variable {s : State} {ln : LaneId} {ctx : Context} {w : LaneItem}

theorem Assembler.borrowed_open {a : Assembler} (h : a.context = some ctx) :
    a.borrowed = ((ctx.axles.filterMap fun x => x.axle.ownSpeed).getLast?).getD a.heldSpeed := by
  rw [Assembler.borrowed, h]
  rfl

theorem Context.spacingTo_append {front : List ContextAxle} {last : ContextAxle} (h : ctx.axles = front ++ [last])
    (nRef : Nat) (time : Tick) (eff : Nat) : ctx.spacingTo nRef time eff = spacingOf nRef last time eff := by
  simp only [Context.spacingTo, h, List.getLast?_append, List.getLast?_singleton, Option.some_or]

/-- An axle that reaches an OPEN assembler (R83). -/
theorem State.takeAxle_open (hcontext : (s.asm ln).context = some ctx) (hw : (s.asm ln).working = some w) (axle : Axle) :
    s.takeAxle ln axle = s.nextAxle ln w ctx axle := by
  rw [State.takeAxle, hcontext, hw]

theorem State.takeAxle_idle (hcontext : (s.asm ln).context = none) (axle : Axle) :
    s.takeAxle ln axle = s.openVehicle ln axle false := by
  rw [State.takeAxle, hcontext]

/-- The next vehicle of a split is opened as the device stands after the close and the adoption between the two. -/
theorem State.split_reopens (axle : Axle) (tailgate split : Bool) {g : Generation}
    (hg : ((splitAdopts (vehicleClosed s ln ctx tailgate false) ln).asm ln).adopted = some g) :
    let u := splitAdopts (vehicleClosed s ln ctx tailgate false) ln
    ((s.close ln ctx tailgate false).adoptAtSplit ln).openVehicle ln axle split =
      (u.setAsm ln { u.asm ln with context := some (s.opened ln axle g (u.asm ln).heldSpeed split) }).captureOpen ln axle.time := by
  intro u
  have hframe : TrafficFrame s u := (vehicleClosed_frame s ln ctx tailgate false).trans (splitAdopts_frame _ ln)
  rw [State.close_eq, State.adoptAtSplit_eq, State.openVehicle_eq hg,
    State.opened_congr hframe.tb hframe.temp hframe.drift]

end

/-- Settles O22: `State.takeAxle` by whether a vehicle is open, and then by the spacing and the number of its axles. -/
theorem axleOpensJoinsOrSplits : Obligations.AxleOpensJoinsOrSplits := by
  intro s ln axle a opened
  refine ⟨fun g hidle hg => ?_, fun ctx w front last hcontext hw haxles => ?_⟩
  · rw [State.takeAxle_idle hidle, State.openVehicle_eq hg]
    rfl
  · intro eff spacing own held reopens
    have heff : axle.ownSpeed.getD a.borrowed = eff := by rw [Assembler.borrowed_open hcontext]
    have hspacing : ctx.spacingTo s.tb.nRef axle.time (axle.ownSpeed.getD a.borrowed) = spacing := by
      rw [heff, Context.spacingTo_append haxles]
      rfl
    have hheld : ∀ (c : Context) (tailgate : Bool), c.axles = ctx.axles →
        ((vehicleClosed s ln c tailgate false).asm ln).heldSpeed = held := by
      intro c tailgate hc
      rw [vehicleClosed_asm, hc]
    have hservice : ∀ (c : Context) (tailgate : Bool), a.service = .inService →
        ((vehicleClosed s ln c tailgate false).asm ln).service = .inService := by
      intro c tailgate hin
      rw [vehicleClosed_asm]
      exact hin
    have htake : s.takeAxle ln axle =
        if w.sMax < spacing then ((s.close ln ctx (w.loop && !ctx.fell) false).adoptAtSplit ln).openVehicle ln axle false
        else if 13 ≤ ctx.axles.length then
          ((s.close ln { ctx with split := true } false false).adoptAtSplit ln).openVehicle ln axle true
        else s.setAsm ln { a with context := some { ctx with
          lastTick := s.tb.t
          axles := joinAxle spacing { axle := axle, eff := eff, spacing := none } ctx.axles } } := by
      rw [State.takeAxle_open hcontext hw, ← hspacing, ← heff]
      rfl
    refine ⟨fun hfar => ⟨hheld _ _ rfl, fun hin => ?_, fun g hg => ?_⟩,
      fun hnear hfull => ⟨hheld _ _ rfl, fun hin => ?_, fun g hg => ?_⟩, fun hnear hroom => ?_⟩
    · exact (splitAdopts_heldSpeed (hservice _ _ hin)).trans (hheld _ _ rfl)
    · rw [htake, if_pos hfar, State.split_reopens axle _ _ hg]
      rfl
    · exact (splitAdopts_heldSpeed (hservice _ _ hin)).trans (hheld _ _ rfl)
    · rw [htake, if_neg (Nat.not_lt.2 hnear), if_pos hfull, State.split_reopens axle _ _ hg]
      rfl
    · rw [htake, if_neg (Nat.not_lt.2 hnear), if_neg (Nat.not_le.2 hroom), haxles, joinAxle_append]

/-! ## Closing by silence or time -/

section
variable {s : State} {ln : LaneId} {ctx : Context} {w : LaneItem}

theorem exec_gapWithLoop_eq : exec (.gapWithLoop ln) s = .next (match s.gapDue ln true with
    | none => s
    | some ctx => lanesAdopt (vehicleClosed s ln ctx false false)) := by
  simp only [← State.close_eq, ← State.settle_eq] <;> rfl

theorem exec_gapWithoutLoop_eq : exec (.gapWithoutLoop ln) s = .next (match s.gapDue ln false with
    | none => s
    | some ctx => lanesAdopt (vehicleClosed s ln ctx false false)) := by
  simp only [← State.close_eq, ← State.settle_eq] <;> rfl

theorem exec_timeout_eq : exec (.timeout ln) s = .next (match s.timeoutDue ln with
    | none => s
    | some ctx => lanesAdopt (vehicleClosed s ln ctx false true)) := by
  simp only [← State.close_eq, ← State.settle_eq] <;> rfl

/-- When the gap of an open vehicle has run out (R87, R88). -/
theorem State.gapDue_open (hcontext : (s.asm ln).context = some ctx) (hw : (s.asm ln).working = some w) (loop : Bool) :
    s.gapDue ln loop = if w.loop = loop ∧ (loop = true → (s.asm ln).presence = false) ∧ (s.matcher ln).queue = [] ∧
      (if loop then w.gapLoop else w.gapNoLoop) ≤ ticksSince s.tb.t ctx.lastTick then some ctx else none := by
  unfold State.gapDue
  simp only [hcontext, hw]

theorem State.timeoutDue_open (hcontext : (s.asm ln).context = some ctx) (hw : (s.asm ln).working = some w) :
    s.timeoutDue ln = if w.openLimit * s.tb.nRef ≤ ticksSince s.tb.t ctx.openTick then some ctx else none := by
  unfold State.timeoutDue
  simp only [hcontext, hw]

end

/-- Settles O23: each of the three closes the vehicle by its own due test. -/
theorem silentVehicleCloses : Obligations.SilentVehicleCloses := by
  intro s ln ctx w hcontext hw a closed silent late
  rw [exec_gapWithLoop_eq, exec_gapWithoutLoop_eq, exec_timeout_eq, State.gapDue_open hcontext hw true,
    State.gapDue_open hcontext hw false, State.timeoutDue_open hcontext hw]
  refine ⟨fun h => ?_, fun h => ?_, fun h => ?_, fun h => ?_, fun h => ?_, fun h => ?_⟩
  · rw [if_pos h]
  · rw [if_neg h]
  · rw [if_pos h]
  · rw [if_neg h]
  · rw [if_pos h]
  · rw [if_neg h]

/-! ## The adoption of a quiet lane -/

/-- A lane has something newer to adopt exactly when it does not hold the active generation's number. -/
theorem State.stale_iff {s : State} {g : Generation} (hg : s.tables.active = some g) (ln : LaneId) :
    s.stale ln = true ↔ ∀ h, (s.asm ln).adopted = some h → h.number ≠ g.number := by
  have hasm : (s.lanes.get ln).asm = s.asm ln := rfl
  rw [State.stale, hg, Option.any_some, Lane.holds, hasm]
  cases (s.asm ln).adopted with
  | none => simp
  | some h => simp

/-- Telling the Capture Unit that a lane went OUT touches the unit and what waits for it (R178). -/
theorem State.captureLaneOut_only (s : State) (ln : LaneId) : s.captureLaneOut ln = { s with
    capture := (s.captureLaneOut ln).capture
    mail := { s.mail with toCapture := (s.captureLaneOut ln).mail.toCapture } } := by
  unfold State.captureLaneOut State.takeLaneOut
  split
  · rfl
  · split <;> rfl

theorem State.freeRetiring_only (s : State) : s.freeRetiring = { s with tables := s.freeRetiring.tables } := by
  unfold State.freeRetiring
  split
  · rfl
  · split <;> rfl

theorem State.raiseReported_only (s : State) (before : Reported) (ln : LaneId) :
    s.raiseReported before ln = { s with link :=
      if (s.lanes.get ln).reported = before then s.link else s.link.raised (laneChange ln) } := by
  unfold State.raiseReported
  split <;> rfl

theorem State.taken_only (s : State) (g : Generation) (ln : LaneId) : s.taken g ln = { s with
    lanes := (s.taken g ln).lanes, capture := (s.taken g ln).capture
    mail := { s.mail with toCapture := (s.taken g ln).mail.toCapture } } := by
  unfold State.taken
  dsimp only
  split
  · rw [State.captureLaneOut_lanes]
    exact State.captureLaneOut_only _ ln
  · rfl

/-- The lane with the generation's settings, the Capture Unit not yet told (R75). -/
def State.adopting (s : State) (g : Generation) (ln : LaneId) : State :=
  s.setLane ln { s.lanes.get ln with
    asm := (s.asm ln).adopt g (g.set.lanes.get ln)
    matcher := { s.matcher ln with windows := some (windowsOf (g.set.lanes.get ln) s.tb.nRef) } }

theorem State.taken_out {s : State} {g : Generation} {ln : LaneId}
    (h : (s.asm ln).service = .inService ∧ (g.set.lanes.get ln).enabled = false) :
    s.taken g ln = (s.adopting g ln).captureLaneOut ln := if_pos h

theorem State.taken_stays {s : State} {g : Generation} {ln : LaneId}
    (h : ¬((s.asm ln).service = .inService ∧ (g.set.lanes.get ln).enabled = false)) :
    s.taken g ln = s.adopting g ln := if_neg h

section
variable {s : State} {g : Generation} {ln : LaneId} (hg : s.tables.active = some g)
include hg

/-- What an adoption can touch, and the notice of the lane whose reported state it changes (R74, R75). -/
theorem State.adopt_only : s.adopt ln = { s with
    lanes := (s.adopt ln).lanes, tables := (s.adopt ln).tables, capture := (s.adopt ln).capture
    link := if ((s.adopt ln).lanes.get ln).reported = (s.lanes.get ln).reported then s.link
      else s.link.raised (laneChange ln)
    mail := { s.mail with toCapture := (s.adopt ln).mail.toCapture } } := by
  rw [State.adopt_eq hg, State.raiseReported_only]
  generalize hfree : (s.taken g ln).freeRetiring = u
  have hu := (s.taken g ln).freeRetiring_only
  rw [hfree, s.taken_only g ln] at hu
  rw [hu]

theorem State.adopt_link : (s.adopt ln).link =
    if ((s.adopt ln).lanes.get ln).reported = (s.lanes.get ln).reported then s.link else s.link.raised (laneChange ln) :=
  congrArg State.link (State.adopt_only hg)

theorem State.adopt_capture : (s.adopt ln).capture = (s.taken g ln).capture ∧
    (s.adopt ln).mail.toCapture = (s.taken g ln).mail.toCapture := by
  rw [State.adopt_eq hg, State.raiseReported_only, State.freeRetiring_only]
  exact ⟨rfl, rfl⟩

/-- The tables after an adoption: the retiring generation is freed unless a lane still holds it (R154). -/
theorem State.adopt_tables : (s.adopt ln).tables = (s.taken g ln).freeRetiring.tables := by
  rw [State.adopt_eq hg, State.raiseReported_only]

theorem State.adopt_asm_taken (k : LaneId) : (s.adopt ln).asm k = (s.taken g ln).asm k := by
  rw [State.adopt_eq hg, State.raiseReported_asm, State.freeRetiring_only]
  rfl

/-- A lane that stays in service or stays OUT tells the Capture Unit nothing. -/
theorem State.adopt_capture_kept (h : ¬((s.asm ln).service = .inService ∧ (g.set.lanes.get ln).enabled = false)) :
    (s.adopt ln).capture = s.capture ∧ (s.adopt ln).mail = s.mail := by
  have htaken : (s.taken g ln).capture = s.capture ∧ (s.taken g ln).mail = s.mail := by
    rw [State.taken_stays h]
    exact ⟨rfl, rfl⟩
  obtain ⟨hcapture, hcoming⟩ := State.adopt_capture (ln := ln) hg
  refine ⟨hcapture.trans htaken.1, ?_⟩
  have hmail := congrArg State.mail (State.adopt_only (ln := ln) hg)
  rw [hcoming, htaken.2] at hmail
  exact hmail

/-- A lane that goes OUT does (R76, R178). -/
theorem State.adopt_capture_told (h : (s.asm ln).service = .inService ∧ (g.set.lanes.get ln).enabled = false) :
    CaptureToldOut s (s.adopt ln) ln := by
  have htold := (s.adopting g ln).captureLaneOut_told ln
  rw [← State.taken_out h] at htold
  obtain ⟨hcapture, hcoming⟩ := State.adopt_capture (ln := ln) hg
  unfold CaptureToldOut at htold ⊢
  rw [hcapture, hcoming]
  exact htold

end

theorem State.freeRetiring_none {s : State} (h : s.tables.retiring = none) : s.freeRetiring = s := by
  unfold State.freeRetiring
  rw [h]

theorem State.freeRetiring_some {s : State} {old : Generation} (h : s.tables.retiring = some old) :
    s.freeRetiring = if s.someLaneHolds old.number then s else { s with tables := { s.tables with retiring := none } } := by
  unfold State.freeRetiring
  rw [h]

/-- Settles O25: a quiet lane with something newer to adopt adopts, by the lemmas on `State.adopt`; any other does not. -/
theorem quietLaneAdopts : Obligations.QuietLaneAdopts := by
  intro s ln g hg a w isQuiet newer
  have hquiet : s.quiet ln = true ↔ isQuiet := by
    rw [State.quiet_iff]
    exact ⟨fun ⟨h1, h2, h3, h4, h5⟩ => ⟨h1, h3, h4, h2, h5⟩, fun ⟨h1, h3, h4, h2, h5⟩ => ⟨h1, h2, h3, h4, h5⟩⟩
  refine ⟨fun hq hnew => ?_, hquiet, fun hkeep => ?_, fun u hu => ?_⟩
  · have hadopt : s.adoptIfQuiet ln = s.adopt ln := if_pos (Bool.and_eq_true_iff.2 ⟨hquiet.2 hq, (State.stale_iff hg ln).2 hnew⟩)
    intro t
    have hadopted : t = s.adopt ln := hadopt
    clear_value t
    subst hadopted
    refine ⟨State.adopt_asm hg, State.adopt_matcher hg, fun k hk => ?_, fun old hold => ?_, fun hnone => ?_, ?_,
      State.adopt_link hg, ?_⟩
    · rw [State.adopt_lanes hg, Four.get_set_ne _ _ hk]
    · have hold' : (s.taken g ln).tables.retiring = some old := (congrArg TableStore.retiring (s.taken_tables g ln)).trans hold
      simp only [State.adopt_asm_taken hg, State.adopt_tables hg]
      rw [State.freeRetiring_some hold']
      refine ⟨fun hheld => ?_, fun hfree => ?_⟩
      · rw [if_pos ((State.someLaneHolds_iff _ _).2 hheld), State.taken_tables]
      · rw [if_neg, State.taken_tables]
        rw [State.someLaneHolds_iff]
        rintro ⟨k, h, hh, heq⟩
        exact hfree k h hh heq
    · rw [State.adopt_tables hg, State.freeRetiring_none, State.taken_tables]
      rw [State.taken_tables]
      exact hnone
    · split
      · next hout => exact State.adopt_capture_told hg hout
      · next hstays => exact State.adopt_capture_kept hg hstays
    · have honly := State.adopt_only (ln := ln) hg
      rw [← State.adopt_link hg] at honly
      exact honly
  · refine if_neg fun h => ?_
    obtain ⟨hq, hstale⟩ := Bool.and_eq_true_iff.1 h
    rcases hkeep with hbusy | hheld
    · exact hbusy (hquiet.1 hq)
    · exact hheld ((State.stale_iff hg ln).1 hstale)
  · refine if_neg fun h => ?_
    have hstale := (Bool.and_eq_true_iff.1 h).2
    rw [State.stale, hu] at hstale
    cases hstale

end Sys2Proof.Machine
end

section
/-! The Capture Unit: arming, releasing and writing (O45), and the start and the test that a vehicle brings (O46). -/

namespace Sys2Proof.Machine

/-! ## Arming and releasing -/

theorem triggerOf_eq {code c : Byte} {trig : Trigger}
    (h : code = 0 ∧ trig = .next ∨ code = 1 ∧ trig = .flagged ∨ code = 2 ∧ c.toNat ≤ 31 ∧ trig = .cls c.toNat ∨
      code = 3 ∧ trig = .enforce) : triggerOf code.toNat c.toNat = some trig := by
  rcases h with ⟨rfl, rfl⟩ | ⟨rfl, rfl⟩ | ⟨rfl, hc, rfl⟩ | ⟨rfl, rfl⟩
  · rfl
  · rfl
  · exact if_pos hc
  · rfl

theorem triggerOf_none {code c : Byte} (h : 3 < code.toNat ∨ code = 2 ∧ 31 < c.toNat) : triggerOf code.toNat c.toNat = none := by
  rcases h with h | ⟨rfl, hc⟩
  · match code.toNat, h with
    | n + 4, _ => rfl
  · exact if_neg (Nat.not_le.2 hc)

/-- The fields of a CAPTURE_ARM body in IDLE (R173). -/
theorem exec_captureArm_idle {s : State} (tag a d code c : Byte) (h : s.capture.state = .idle) :
    exec (.captureArm tag [a, d, code, c]) s = .next (
      match fourOfNumber a.toNat, triggerOf code.toNat c.toNat with
      | some ln, some trig =>
        if !within 1 16 d.toNat || (s.asm ln).service = .out then s.answer 0x28 tag [a, d, code, c] [codeBadValue]
        else State.answer { s.dropWaiting with capture := CaptureUnit.arm ln d.toNat trig s.tb.t } 0x28 tag [a, d, code, c] [codeOk]
      | _, _ => s.answer 0x28 tag [a, d, code, c] [codeBadValue]) := by
  show execCaptureArm tag [a, d, code, c] s = _
  rw [execCaptureArm, if_neg (by simp), if_neg (by simp [h])]
  simp only [field_cons_succ _ _ 0, field_cons_succ _ _ 1, field_cons_succ _ _ 2, field_cons_zero] <;> rfl

theorem exec_captureArm_busy {s : State} (tag a d code c : Byte) (h : s.capture.state ≠ .idle) :
    exec (.captureArm tag [a, d, code, c]) s = .next (s.answer 0x28 tag [a, d, code, c] [codeBusy]) := by
  show execCaptureArm tag [a, d, code, c] s = _
  rw [execCaptureArm, if_neg (by simp), if_pos h]

theorem exec_captureRelease_eq (s : State) (tag : Byte) :
    exec (.captureRelease tag []) s = .next (State.answer { s with capture := CaptureUnit.start } 0x2A tag [] [codeOk]) := by
  show execCaptureRelease tag [] s = _
  rw [execCaptureRelease, if_neg (by simp)]

/-! ## Writing -/

theorem CaptureUnit.writing_iff (c : CaptureUnit) : c.writing = true ↔ c.state = .armed ∨ c.state = .recording := by
  unfold CaptureUnit.writing
  cases c.state <;> simp

/-- The sets of a capture with a start are the buffer from that set on (R176). -/
theorem CaptureUnit.sets_eq (c : CaptureUnit) :
    c.sets = if c.startTick = none then [] else c.buffer.dropWhile fun y => decide (some y.tick ≠ c.startTick) := by
  unfold CaptureUnit.sets
  cases c.startTick with
  | none => rfl
  | some st => simp

theorem CaptureUnit.blocked_iff (c : CaptureUnit) :
    c.blocked = true ↔ c.state = .recording ∧ c.startTick ≠ none ∧
      2048 ≤ (c.buffer.dropWhile fun y => decide (some y.tick ≠ c.startTick)).length := by
  unfold CaptureUnit.blocked
  rw [c.sets_eq, Bool.and_eq_true, Bool.and_eq_true, decide_eq_true_eq, decide_eq_true_eq, Option.isSome_iff_ne_none, and_assoc]
  refine and_congr_right fun _ => and_congr_right fun hstart => ?_
  rw [if_neg hstart]
  rfl

theorem exec_captureWrite_due {s : State} {ln : LaneId} (h : s.writeDue = true) (hlane : s.capture.lane = some ln) :
    exec .captureWrite s = .next { s with capture :=
      (s.capture.write { tick := s.tb.t, ys := (s.lanes.get ln).samples }) } := by
  show execCaptureWrite s = _
  rw [execCaptureWrite, if_pos h, hlane]

theorem exec_captureWrite_idle {s : State} (h : ¬ s.writeDue = true) : exec .captureWrite s = .next s := by
  show execCaptureWrite s = _
  rw [execCaptureWrite, if_neg h]

theorem CaptureUnit.write_blocked {c : CaptureUnit} (h : c.blocked = true) (x : SampleSet) :
    c.write x = { c with nextWrite := tickAdd c.nextWrite (c.d.getD 1), truncated := true } := if_pos h

theorem CaptureUnit.write_free {c : CaptureUnit} (h : ¬ c.blocked = true) (x : SampleSet) :
    c.write x = { c with
      nextWrite := tickAdd c.nextWrite (c.d.getD 1)
      buffer := (if 2048 ≤ c.buffer.length then c.buffer.tail else c.buffer) ++ [x]
      startTick := if c.state = .recording ∧ c.startTick = none then some x.tick else c.startTick } := by
  rw [← List.drop_one]
  exact if_neg h

/-- Settles O45: the arm by its state, its lane and its fields; the write by whether the start blocks it. -/
theorem captureArmsAndWrites : Obligations.CaptureArmsAndWrites := by
  intro s tag
  refine ⟨fun ln d trig code c hlow hhigh htrig => ?_, fun a d code c hidle hbad => ?_, fun a d code c hbusy => ?_, ?_, ?_⟩
  · intro body
    have hlane : fourOfNumber (BitVec.ofNat 8 (ln.val + 1)).toNat = some ln := fourOfNumber_number ln
    have hd : (BitVec.ofNat 8 d).toNat = d := by
      rw [BitVec.toNat_ofNat]
      exact Nat.mod_eq_of_lt (by omega)
    have hwithin : within 1 16 d = true := (within_iff 1 16 d).2 ⟨hlow, hhigh⟩
    refine ⟨fun hidle hin => ⟨_, exec_captureArm_idle tag _ _ _ _ hidle, ?_⟩,
      fun hidle hout => ⟨_, exec_captureArm_idle tag _ _ _ _ hidle, ?_⟩⟩
    · rw [hlane, triggerOf_eq htrig, hd]
      simp only [hwithin, hin, Bool.not_true, reduceCtorEq, decide_false, Bool.or_false, Bool.false_eq_true, if_false]
      exact State.answer_only _ _ _ _ _
    · rw [hlane, triggerOf_eq htrig, hd]
      simp only [hout, decide_true, Bool.or_true, if_true]
      exact State.answer_only _ _ _ _ _
  · refine ⟨_, exec_captureArm_idle tag a d code c hidle, ?_⟩
    cases hlane : fourOfNumber a.toNat with
    | none => exact State.answer_only _ _ _ _ _
    | some ln =>
      cases htrig : triggerOf code.toNat c.toNat with
      | none => exact State.answer_only _ _ _ _ _
      | some trig =>
        have hout : ¬ within 1 16 d.toNat = true := by
          rw [within_iff]
          rcases hbad with h | h | h | h | h
          · rw [fourOfNumber_none (.inl h)] at hlane
            cases hlane
          · rw [fourOfNumber_none (.inr h)] at hlane
            cases hlane
          · omega
          · omega
          · rw [triggerOf_none h] at htrig
            cases htrig
        simp only [hout, Bool.not_false, Bool.true_or, if_true]
        exact State.answer_only _ _ _ _ _
  · exact ⟨_, exec_captureArm_busy tag a d code c hbusy, State.answer_only _ _ _ _ _⟩
  · exact ⟨_, exec_captureRelease_eq s tag, State.answer_only _ _ _ _ _⟩
  · intro c due
    have hdue : s.writeDue = true ↔ due := by
      rw [State.writeDue, Bool.and_eq_true, CaptureUnit.writing_iff, decide_eq_true_eq]
    refine ⟨fun h => exec_captureWrite_idle (mt hdue.1 h), fun ln d h hlane hd => ?_⟩
    have hnext : tickAdd c.nextWrite (c.d.getD 1) = s.tb.t + BitVec.ofNat 32 d := by
      rw [hd, h.2]
      rfl
    rw [exec_captureWrite_due (hdue.2 h) hlane]
    refine ⟨fun hblocked => ?_, fun hfree => ?_⟩
    · rw [CaptureUnit.write_blocked (s.capture.blocked_iff.2 hblocked), hnext]
    · rw [CaptureUnit.write_free (mt s.capture.blocked_iff.1 hfree), hnext]
      rfl

/-! ## The start at an open -/

/-- The nearest of the held sets, the earlier of two equally near (R175). -/
theorem nearestSet_split (target : Tick) {before after : List SampleSet} {x : SampleSet}
    (hbefore : ∀ y ∈ before, tickDist x.tick target < tickDist y.tick target)
    (hafter : ∀ y ∈ after, tickDist x.tick target ≤ tickDist y.tick target) :
    nearestSet target (before ++ x :: after) = some x := by
  have hmem : ∀ l y, nearestSet target l = some y → y ∈ l := by
    intro l
    induction l with
    | nil => intro y hy; cases hy
    | cons z zs ih =>
      intro y hy
      rw [nearestSet] at hy
      cases hz : nearestSet target zs with
      | none =>
        rw [hz] at hy
        cases hy
        exact List.mem_cons_self
      | some y' =>
        rw [hz] at hy
        dsimp only at hy
        split at hy
        · cases hy
          exact List.mem_cons_self
        · cases hy
          exact List.mem_cons_of_mem z (ih _ hz)
  induction before with
  | nil =>
    rw [List.nil_append, nearestSet]
    cases hnear : nearestSet target after with
    | none => rfl
    | some y => exact if_pos (hafter y (hmem after y hnear))
  | cons b bs ih =>
    rw [List.cons_append, nearestSet, ih fun y hy => hbefore y (List.mem_cons_of_mem b hy)]
    exact if_neg (Nat.not_le.2 (hbefore b List.mem_cons_self))

/-- A unit whose start is fixed for a target tick starts its capture as R175 gives. -/
theorem fixStart_starts (s : State) (target : Tick) :
    CaptureStarts s { s with capture := s.capture.fixStart target } target := by
  unfold CaptureStarts
  intro recording
  refine ⟨fun hempty => ?_, fun oldest sets hbuffer => ⟨fun hcut => ?_, fun hwhole before x after hsplit hbefore hafter => ?_⟩⟩
  · simp only [CaptureUnit.fixStart, hempty, recording, Bool.true_or]
  · simp only [CaptureUnit.fixStart, hbuffer, hcut, recording, Bool.true_or, if_true]
  · have hnear := nearestSet_split target hbefore hafter
    rw [← hsplit, hbuffer] at hnear
    simp only [CaptureUnit.fixStart, hbuffer, hwhole, hnear, recording, Bool.false_or, Bool.false_eq_true, if_false,
      Option.map_some]

section
variable {s : State} {ln : LaneId} {target : Tick}

theorem State.takeOpen_armed (h : s.capture.state = .armed) (hlane : s.capture.lane = some ln) :
    s.takeOpen ln target = { s with capture := s.capture.fixStart target } := if_pos ⟨h, hlane⟩

theorem State.takeOpen_other (h : ¬(s.capture.state = .armed ∧ s.capture.lane = some ln)) : s.takeOpen ln target = s := if_neg h

/-- An open of the armed lane, with the target that the lane's windows give (R175). -/
theorem State.captureOpen_writing {win : Windows} (time : Tick) (hwriting : s.capture.state = .armed ∨ s.capture.state = .recording)
    (hlane : s.capture.lane = some ln) (hwin : (s.matcher ln).windows = some win) :
    let target := time - BitVec.ofNat 32 (roundNat win.dtMax 10)
    s.captureOpen ln time = if s.recordComing ln then s.waitBehind ln fun d => { d with opened := some target }
      else s.takeOpen ln target := by
  intro target
  unfold State.captureOpen
  rw [if_pos ⟨s.capture.writing_iff.2 hwriting, hlane⟩, hwin]
  rfl

theorem State.captureOpen_other (time : Tick)
    (h : ¬((s.capture.state = .armed ∨ s.capture.state = .recording) ∧ s.capture.lane = some ln)) :
    s.captureOpen ln time = s := by
  unfold State.captureOpen
  exact if_neg fun hon => h ⟨s.capture.writing_iff.1 hon.1, hon.2⟩

theorem State.recordComing_iff : s.recordComing ln = true ↔ ∃ d ∈ s.mail.toCapture, d.record.lane = ln := by
  simp [State.recordComing]

end

/-! ## The test at a close -/

theorem Trigger.holds_iff (trig : Trigger) (r : VehicleRecord) : trig.holds r = true ↔
    match trig with
    | .next => True
    | .flagged => r.quality ≠ .good
    | .cls n => r.cls = n
    | .enforce => r.flags.axleOver = true ∨ r.flags.gvwOver = true ∨ r.flags.laneBanned = true := by
  cases trig <;> simp [Trigger.holds, or_assoc]

/-- CAPTURED reaches the records of a serial, held and on their way (R126); without a serial it reaches none. -/
theorem State.setCaptured_eq (s : State) (serial : Option Nat) :
    let mark : VehicleRecord → VehicleRecord := fun q =>
      if serial ≠ none ∧ q.serial = serial then { q with conditions := { q.conditions with captured := true } } else q
    s.setCaptured serial = { s with
      store := { s.store with held := s.store.held.map mark }
      mail := { s.mail with toStore := s.mail.toStore.map mark } } := by
  intro mark
  cases serial with
  | none =>
    have hid : mark = id := funext fun q => if_neg fun h => h.1 rfl
    rw [hid, List.map_id, List.map_id]
    rfl
  | some n =>
    have hmark : mark = markCaptured n := funext fun q => by simp [mark, markCaptured]
    rw [hmark]
    rfl

section
variable {s : State} {r : VehicleRecord}

theorem State.closeTest_other (h : ¬(s.capture.state = .recording ∧ s.capture.lane = some r.lane)) : s.closeTest r = s := if_neg h

/-- A record of the armed lane is tested in RECORDING (R176). -/
theorem State.closeTest_recording {trig : Trigger} (h : s.capture.state = .recording ∧ s.capture.lane = some r.lane)
    (htrig : s.capture.trigger = some trig) :
    s.closeTest r = if trig.holds r
      then State.raise (State.setCaptured { s with capture := s.capture.hold r } r.serial) (.captureHeld r.serial)
      else { s with capture := { s.capture with state := .armed, startTick := none, truncated := false } } := by
  unfold State.closeTest
  rw [if_pos h, htrig]
  rfl

/-- What the unit holds when the trigger holds (R176). -/
theorem CaptureUnit.hold_eq {c : CaptureUnit} {d : Nat} (hd : c.d = some d) (r : VehicleRecord) :
    let sets := if c.startTick = none then [] else c.buffer.dropWhile fun y => decide (some y.tick ≠ c.startTick)
    c.hold r = { c with
      state := .held, buffer := sets
      description := some ⟨r.serial, r.lane, c.startTick, d, sets.length, c.truncated⟩ } := by
  intro sets
  rw [CaptureUnit.hold, c.sets_eq, hd]
  rfl

theorem exec_captureCloseTest_none (h : s.mail.toCapture = []) : exec .captureCloseTest s = .next s := by
  show execCaptureCloseTest s = _
  rw [execCaptureCloseTest, h]

theorem exec_captureCloseTest_some {d : CaptureDelivery} {rest : List CaptureDelivery} (h : s.mail.toCapture = d :: rest) :
    exec .captureCloseTest s = .next
      ((State.closeTest { s with mail := { s.mail with toCapture := rest } } d.record).takeWaiting d) := by
  show execCaptureCloseTest s = _
  rw [execCaptureCloseTest, h]

/-- The loss of the lane that waited behind a record (R178). -/
theorem State.takeLaneOut_eq (s : State) (ln : LaneId) : s.takeLaneOut ln =
    if (s.capture.state = .armed ∨ s.capture.state = .recording) ∧ s.capture.lane = some ln
    then { s with capture := captureEmpty } else s := by
  unfold State.takeLaneOut
  simp only [CaptureUnit.writing_iff]
  rfl

/-- The state after what waited behind a record has told the unit, or not, that the lane went OUT (R178). -/
def State.toldOut (s : State) (ln : LaneId) (laneOut : Bool) : State :=
  if laneOut = true ∧ (s.capture.state = .armed ∨ s.capture.state = .recording) ∧ s.capture.lane = some ln
  then { s with capture := captureEmpty } else s

theorem State.toldOut_eq (s : State) (ln : LaneId) (laneOut : Bool) :
    (if laneOut then s.takeLaneOut ln else s) = s.toldOut ln laneOut := by
  cases laneOut with
  | false => rfl
  | true =>
    rw [if_pos rfl, State.takeLaneOut_eq]
    exact if_congr (by simp) rfl rfl

theorem State.takeWaiting_none (s : State) (laneOut : Bool) :
    s.takeWaiting { record := r, opened := none, laneOut := laneOut } = s.toldOut r.lane laneOut := by
  rw [← State.toldOut_eq]
  rfl

/-- An open that waited is taken after the loss of the lane (notes/assumptions/35.md). -/
theorem State.takeWaiting_some (s : State) (target : Tick) (laneOut : Bool) :
    s.takeWaiting { record := r, opened := some target, laneOut := laneOut } =
      (s.toldOut r.lane laneOut).takeOpen r.lane target := by
  rw [← State.toldOut_eq]
  rfl

end

/-- Settles O46: the open by `State.captureOpen_writing` and `fixStart_starts`, the test by `State.closeTest_recording`, and what
waited behind the record by `State.takeWaiting_none` and `State.takeWaiting_some`. -/
theorem captureFollowsVehicle : Obligations.CaptureFollowsVehicle := by
  intro s
  refine ⟨fun ln t1 win hlane hwin => ?_, fun ln t1 hother => ?_, exec_captureCloseTest_none, fun r rest hmail => ?_,
    fun r opened laneOut rest hmail => ?_⟩
  · intro target
    refine ⟨fun hnone => ?_, fun before d after hwriting hmail hd hafter => ?_⟩
    · have hcoming : ¬ s.recordComing ln = true := by
        rw [State.recordComing_iff]
        rintro ⟨d, hd, heq⟩
        exact hnone d hd heq
      refine ⟨fun harmed => ?_, fun hrecording => ?_⟩
      · rw [State.captureOpen_writing t1 (.inl harmed) hlane hwin, if_neg hcoming, State.takeOpen_armed harmed hlane]
        exact fixStart_starts s target
      · rw [State.captureOpen_writing t1 (.inr hrecording) hlane hwin, if_neg hcoming,
          State.takeOpen_other fun h => by rw [hrecording] at h; cases h.1]
    · have hcoming : s.recordComing ln = true := State.recordComing_iff.2 ⟨d, by simp [hmail], hd⟩
      rw [State.captureOpen_writing t1 hwriting hlane hwin, if_pos hcoming, State.waitBehind, hmail,
        behindLast_split ln _ before after d hd hafter]
  · refine State.captureOpen_other t1 ?_
    rintro ⟨hwriting, hlane⟩
    rcases hother with h | h | h
    · rw [h] at hwriting
      exact hwriting.elim (fun h => by cases h) fun h => by cases h
    · rw [h] at hwriting
      exact hwriting.elim (fun h => by cases h) fun h => by cases h
    · exact h hlane
  · intro c s'
    rw [exec_captureCloseTest_some hmail]
    refine ⟨fun hother => ?_, fun trig d hrecording hlane htrig hd => ?_⟩
    · rw [State.closeTest_other (s := { s with mail := { s.mail with toCapture := rest } })
        fun h => hother.elim (fun hn => hn h.1) fun hn => hn h.2]
      rfl
    · intro isTrue sets mark
      rw [State.closeTest_recording (s := { s with mail := { s.mail with toCapture := rest } }) ⟨hrecording, hlane⟩ htrig]
      refine ⟨fun hfails => ?_, fun hholds => ?_⟩
      · rw [if_neg (mt (trig.holds_iff r).1 hfails)]
        rfl
      · rw [if_pos ((trig.holds_iff r).2 hholds), State.setCaptured_eq]
        have hheld := CaptureUnit.hold_eq (c := s.capture) hd r
        simp only [hheld]
        rfl
  · have halone := exec_captureCloseTest_some (d := { record := r, opened := none, laneOut := false }) (rest := rest)
      (s := { s with mail := { s.mail with toCapture := { record := r, opened := none, laneOut := false } :: rest } }) rfl
    rw [State.takeWaiting_none] at halone
    refine ⟨State.closeTest { s with mail := { s.mail with toCapture := rest } } r, _, exec_captureCloseTest_some hmail,
      halone.trans (congrArg _ (if_neg fun h => by cases h.1)), ?_⟩
    generalize State.closeTest { s with mail := { s.mail with toCapture := rest } } r = m
    intro told
    have htold : told = m.toldOut r.lane laneOut := rfl
    refine ⟨fun hnone => ?_, fun target hsome => ⟨fun harmed hlane => ?_, fun hother => ?_⟩⟩
    · rw [hnone, State.takeWaiting_none]
      exact htold.symm
    · rw [hsome, State.takeWaiting_some, ← htold, State.takeOpen_armed harmed hlane]
      exact fixStart_starts told target
    · rw [hsome, State.takeWaiting_some, ← htold]
      exact State.takeOpen_other fun h => hother.elim (fun hn => hn h.1) fun hn => hn h.2

end Sys2Proof.Machine
end

section
/-! Several lanes adopting the active generation one after another: what they make of the lanes, the tables, the Capture Unit and
the link. The commit (R153) and the restart (R184) end in such a run. -/

namespace Sys2Proof.Machine

/-! ## A run of adoptions -/

/-- One lane adopts where it is told to. -/
def State.adoptWhere (p : LaneId → Bool) (s : State) (ln : LaneId) : State := if p ln then s.adopt ln else s

/-- A lane that is told to adopt goes OUT with it. -/
def State.goesOut (s : State) (p : LaneId → Bool) (g : Generation) (ln : LaneId) : Prop :=
  p ln = true ∧ (s.asm ln).service = .inService ∧ (g.set.lanes.get ln).enabled = false

/-- What the adoptions of some lanes, told one after another, make of a state whose active generation is g. -/
structure State.Adopted (p : LaneId → Bool) (g : Generation) (s t : State) (done : List LaneId) : Prop where
  lanes : ∀ ln, t.lanes.get ln = if ln ∈ done ∧ p ln = true then (s.adopting g ln).lanes.get ln else s.lanes.get ln
  tables : t.tables = { s.tables with retiring := t.tables.retiring }
  unfreed : s.tables.retiring = none → t.tables.retiring = none
  freed : ∀ old, s.tables.retiring = some old → g.number ≠ old.number →
    t.tables.retiring = some old ∨
      t.tables.retiring = none ∧ ∀ k h, (t.asm k).adopted = some h → h.number ≠ old.number
  link : t.link = done.foldl (fun l ln =>
    if (t.lanes.get ln).reported = (s.lanes.get ln).reported then l else l.raised (laneChange ln)) s.link
  lost : t.capture = s.capture ∨ t.capture = captureEmpty
  told : ∀ ln ∈ done, s.capture.lane = some ln → s.goesOut p g ln → CaptureToldOut s t ln
  kept : (∀ ln ∈ done, s.capture.lane = some ln → ¬ s.goesOut p g ln) →
    t.capture = s.capture ∧ t.mail.toCapture = s.mail.toCapture
  only : t = { s with
    lanes := t.lanes, tables := t.tables, capture := t.capture, link := t.link
    mail := { s.mail with toCapture := t.mail.toCapture } }

theorem State.Adopted.refl (p : LaneId → Bool) (g : Generation) (s : State) : State.Adopted p g s s [] where
  lanes := fun ln => (if_neg fun h => by cases h.1).symm
  tables := rfl
  unfreed := id
  freed := fun _ h _ => .inl h
  link := rfl
  lost := .inl rfl
  told := fun ln h => (by cases h)
  kept := fun _ => ⟨rfl, rfl⟩
  only := rfl

/-- What the Capture Unit is told depends on the unit and the records on their way to it alone. -/
theorem CaptureToldOut.congr {s s' t t' : State} {ln : LaneId} (h : CaptureToldOut s t ln)
    (hcapture : s'.capture = s.capture) (hcoming : s'.mail.toCapture = s.mail.toCapture) (hcapture' : t'.capture = t.capture)
    (hcoming' : t'.mail.toCapture = t.mail.toCapture) : CaptureToldOut s' t' ln := by
  unfold CaptureToldOut at h ⊢
  rw [hcapture, hcoming, hcapture', hcoming']
  exact h

theorem State.takeLaneOut_capture (s : State) (ln : LaneId) :
    (s.takeLaneOut ln).capture = s.capture ∨ (s.takeLaneOut ln).capture = captureEmpty := by
  unfold State.takeLaneOut
  split
  · exact .inr rfl
  · exact .inl rfl

theorem State.captureLaneOut_capture (s : State) (ln : LaneId) :
    (s.captureLaneOut ln).capture = s.capture ∨ (s.captureLaneOut ln).capture = captureEmpty := by
  unfold State.captureLaneOut
  split
  · exact .inl rfl
  · exact s.takeLaneOut_capture ln

/-- An adoption leaves the Capture Unit as it is, or IDLE and empty. -/
theorem State.adopt_capture_lost {s : State} {g : Generation} (hg : s.tables.active = some g) (ln : LaneId) :
    (s.adopt ln).capture = s.capture ∨ (s.adopt ln).capture = captureEmpty := by
  rw [(State.adopt_capture hg).1]
  by_cases h : (s.asm ln).service = .inService ∧ (g.set.lanes.get ln).enabled = false
  · rw [State.taken_out h]
    exact (s.adopting g ln).captureLaneOut_capture ln
  · rw [State.taken_stays h]
    exact .inl rfl

/-- An adoption of a lane other than the Capture Unit's tells the unit nothing. -/
theorem State.adopt_capture_other {s : State} {g : Generation} (hg : s.tables.active = some g) {ln : LaneId}
    (h : s.capture.lane ≠ some ln) : (s.adopt ln).capture = s.capture ∧ (s.adopt ln).mail.toCapture = s.mail.toCapture := by
  by_cases hout : (s.asm ln).service = .inService ∧ (g.set.lanes.get ln).enabled = false
  · exact (State.adopt_capture_told hg hout).1 fun hon => h hon.2
  · obtain ⟨hcapture, hmail⟩ := State.adopt_capture_kept hg hout
    exact ⟨hcapture, congrArg Mail.toCapture hmail⟩

section
variable {p : LaneId → Bool} {g : Generation} {s t : State} {done : List LaneId} {k : LaneId}

theorem State.Adopted.active (h : State.Adopted p g s t done) (hg : s.tables.active = some g) : t.tables.active = some g := by
  rw [h.tables]
  exact hg

/-- A lane that has not been told is as it was. -/
theorem State.Adopted.lane_untold (h : State.Adopted p g s t done) (hk : k ∉ done) : t.lanes.get k = s.lanes.get k := by
  rw [h.lanes, if_neg fun hin => hk hin.1]

theorem State.Adopted.asm_untold (h : State.Adopted p g s t done) (hk : k ∉ done) : t.asm k = s.asm k :=
  congrArg Lane.asm (h.lane_untold hk)

/-- The notices of the lanes told before do not change when one more lane is told. -/
theorem State.Adopted.link_told {t' : State} (h : State.Adopted p g s t done)
    (hlanes : ∀ ln ∈ done, t'.lanes.get ln = t.lanes.get ln) :
    t.link = done.foldl (fun l ln =>
      if (t'.lanes.get ln).reported = (s.lanes.get ln).reported then l else l.raised (laneChange ln)) s.link := by
  rw [h.link]
  exact List.foldl_ext _ _ _ fun l ln hln => by rw [hlanes ln hln]

/-- A lane that is told not to adopt. -/
theorem State.Adopted.skip (h : State.Adopted p g s t done) (hk : k ∉ done) (hp : ¬ p k = true) :
    State.Adopted p g s t (done ++ [k]) where
  lanes := fun ln => by
    rw [h.lanes]
    refine if_congr ?_ rfl rfl
    simp only [List.mem_append, List.mem_singleton]
    exact ⟨fun hin => ⟨.inl hin.1, hin.2⟩, fun hin => ⟨hin.1.resolve_right fun heq => hp (heq ▸ hin.2), hin.2⟩⟩
  tables := h.tables
  unfreed := h.unfreed
  freed := h.freed
  link := by
    rw [List.foldl_append, ← h.link, List.foldl_cons, List.foldl_nil, h.lane_untold hk, if_pos rfl]
  lost := h.lost
  told := fun ln hln hlane hout => by
    refine h.told ln ((List.mem_append.1 hln).resolve_right fun hin => ?_) hlane hout
    rw [List.mem_singleton] at hin
    exact hp (hin ▸ hout.1)
  kept := fun hstay => h.kept fun ln hln => hstay ln (List.mem_append_left _ hln)
  only := h.only

/-- After one more lane has adopted, what was freed stays freed, and what is retiring is freed unless some lane still holds it. -/
theorem State.Adopted.freed_adopt (h : State.Adopted p g s t done) (hg : s.tables.active = some g) {old : Generation}
    (hold : s.tables.retiring = some old) (hne : g.number ≠ old.number) :
    (t.adopt k).tables.retiring = some old ∨
      (t.adopt k).tables.retiring = none ∧ ∀ j x, ((t.adopt k).asm j).adopted = some x → x.number ≠ old.number := by
  have hactive := h.active hg
  rw [State.adopt_tables hactive]
  rcases h.freed old hold hne with hretiring | ⟨hnone, hfree⟩
  · have hretiring' : (t.taken g k).tables.retiring = some old := (congrArg TableStore.retiring (t.taken_tables g k)).trans hretiring
    rw [State.freeRetiring_some hretiring']
    by_cases hheld : (t.taken g k).someLaneHolds old.number = true
    · rw [if_pos hheld]
      exact .inl hretiring'
    · rw [if_neg hheld]
      refine .inr ⟨rfl, fun j x hx heq => hheld ((State.someLaneHolds_iff _ _).2 ⟨j, x, ?_, heq⟩)⟩
      rw [← State.adopt_asm_taken hactive]
      exact hx
  · have hnone' : (t.taken g k).tables.retiring = none := (congrArg TableStore.retiring (t.taken_tables g k)).trans hnone
    rw [State.freeRetiring_none hnone']
    refine .inr ⟨hnone', fun j x hx => ?_⟩
    by_cases hj : j = k
    · rw [hj, State.adopt_asm hactive] at hx
      cases hx
      exact hne
    · rw [State.adopt_asm_ne hactive hj] at hx
      exact hfree j x hx

theorem State.freeRetiring_tables (s : State) :
    s.freeRetiring.tables = { s.tables with retiring := s.freeRetiring.tables.retiring } := by
  unfold State.freeRetiring
  split
  · rfl
  · split <;> rfl

/-- A lane that is told to adopt. -/
theorem State.Adopted.adopt (h : State.Adopted p g s t done) (hg : s.tables.active = some g) (hk : k ∉ done) (hp : p k = true) :
    State.Adopted p g s (t.adopt k) (done ++ [k]) := by
  have hactive := h.active hg
  have hlanes := State.adopt_lanes hactive k
  have hne : ∀ ln ∈ done, ln ≠ k := fun ln hln heq => hk (heq ▸ hln)
  have hother : ∀ ln, ln ≠ k → (t.adopt k).lanes.get ln = t.lanes.get ln := fun ln hln => by
    rw [hlanes, Four.get_set_ne _ _ hln]
  have htb : t.tb = s.tb := (congrArg State.tb h.only).trans rfl
  have hout : s.goesOut p g k ↔ (t.asm k).service = .inService ∧ (g.set.lanes.get k).enabled = false := by
    rw [h.asm_untold hk]
    exact ⟨fun h => h.2, fun h => ⟨hp, h⟩⟩
  have hlanek : t.capture.lane = some k → s.capture.lane = some k := fun hlane => by
    rcases h.lost with heq | heq
    · rwa [heq] at hlane
    · rw [heq] at hlane
      cases hlane
  refine ⟨fun ln => ?_, ?_, fun hnone => ?_, fun old hold hneq => h.freed_adopt hg hold hneq, ?_, ?_, fun ln hln hlane hgoes => ?_,
    fun hstay => ?_, ?_⟩
  · by_cases hln : ln = k
    · subst hln
      rw [if_pos ⟨List.mem_append_right _ List.mem_cons_self, hp⟩, hlanes, Four.get_set_same, State.adopting,
        State.setLane_lanes, Four.get_set_same, h.lane_untold hk, h.asm_untold hk, htb]
      exact congrArg (fun m => Lane.mk (s.lanes.get ln).units { m with windows := some (windowsOf (g.set.lanes.get ln) s.tb.nRef) }
        ((s.asm ln).adopt g (g.set.lanes.get ln))) (congrArg Lane.matcher (h.lane_untold hk))
    · rw [hother ln hln, h.lanes]
      exact if_congr (and_congr_left fun _ => by simp [hln]) rfl rfl
  · rw [State.adopt_tables hactive, State.freeRetiring_tables, State.taken_tables, h.tables]
  · rw [State.adopt_tables hactive, State.freeRetiring_none, State.taken_tables, h.unfreed hnone]
    rw [State.taken_tables, h.unfreed hnone]
  · rw [List.foldl_append, ← h.link_told fun ln hln => hother ln (hne ln hln), List.foldl_cons, List.foldl_nil,
      State.adopt_link hactive, h.lane_untold hk]
  · rcases State.adopt_capture_lost hactive k with heq | hempty
    · rw [heq]
      exact h.lost
    · exact .inr hempty
  · rcases List.mem_append.1 hln with hin | hin
    · have hnot : t.capture.lane ≠ some k := fun hlane' =>
        hne ln hin (Option.some.inj (hlane.symm.trans (hlanek hlane')))
      obtain ⟨hcapture, hcoming⟩ := State.adopt_capture_other hactive hnot
      exact (h.told ln hin hlane hgoes).congr rfl rfl hcapture hcoming
    · rw [List.mem_singleton] at hin
      subst hin
      obtain ⟨hcapture, hcoming⟩ := h.kept fun j hj hlane' => absurd (Option.some.inj (hlane'.symm.trans hlane)) (hne j hj)
      exact (State.adopt_capture_told hactive (hout.1 hgoes)).congr hcapture.symm hcoming.symm rfl rfl
  · obtain ⟨hcapture, hcoming⟩ := h.kept fun ln hln => hstay ln (List.mem_append_left _ hln)
    by_cases hlane : s.capture.lane = some k
    · have hstays := mt hout.2 (hstay k (List.mem_append_right _ List.mem_cons_self) hlane)
      obtain ⟨hcapture', hmail⟩ := State.adopt_capture_kept hactive hstays
      exact ⟨hcapture'.trans hcapture, (congrArg Mail.toCapture hmail).trans hcoming⟩
    · obtain ⟨hcapture', hcoming'⟩ := State.adopt_capture_other hactive (mt hlanek hlane)
      exact ⟨hcapture'.trans hcapture, hcoming'.trans hcoming⟩
  · have honly := State.adopt_only (ln := k) hactive
    rw [← State.adopt_link hactive] at honly
    generalize t.adopt k = u at honly
    rw [h.only] at honly
    exact honly

/-- Lanes told one after another, none twice. -/
theorem State.Adopted.run (hg : s.tables.active = some g) (rest : List LaneId) (h : State.Adopted p g s t done)
    (hnodup : (done ++ rest).Nodup) : State.Adopted p g s (rest.foldl (State.adoptWhere p) t) (done ++ rest) := by
  induction rest generalizing t done with
  | nil => rwa [List.append_nil]
  | cons k rest ih =>
    rw [List.foldl_cons, List.append_cons]
    have hk : k ∉ done := fun hin => (List.disjoint_of_nodup_append hnodup) hin List.mem_cons_self
    refine ih ?_ (by rwa [← List.append_cons])
    unfold State.adoptWhere
    by_cases hp : p k = true
    · rw [if_pos hp]
      exact h.adopt hg hk hp
    · rw [if_neg hp]
      exact h.skip hk hp

/-- The four lanes told in turn. -/
theorem State.adopted_fours (p : LaneId → Bool) (hg : s.tables.active = some g) :
    State.Adopted p g s (fours.foldl (State.adoptWhere p) s) fours :=
  (State.Adopted.refl p g s).run hg fours (by decide)

end

theorem mem_fours (ln : LaneId) : ln ∈ fours := by
  revert ln
  decide

end Sys2Proof.Machine
end

section
/-! The Table Store's staging set and the checks of a commit: what is staged and put (O38), and the refusals of STAGE_COMMIT
(O41). -/

namespace Sys2Proof.Machine

/-! ## Items put into a set -/

/-- A put item is read back (R146). -/
theorem TableSet.item_put_same (t : TableSet) (i : Item) (h : t.classes.length = 32) : (t.put i).item i.id = i := by
  cases i with
  | classRule c v =>
    have hc : c.val < t.classes.length := c.isLt.trans_eq h.symm
    simp [TableSet.put, TableSet.item, Item.id, hc]
  | lane n v => simp [TableSet.put, TableSet.item, Item.id]
  | channel ch v => simp [TableSet.put, TableSet.item, Item.id]
  | speedTab n points => simp [TableSet.put, TableSet.item, Item.id]
  | probe p v => simp [TableSet.put, TableSet.item, Item.id]
  | _ => rfl

/-- A put item replaces no item of another identity (R146). -/
theorem TableSet.item_put_ne (t : TableSet) {i : Item} {id : ItemId} (h : id ≠ i.id) : (t.put i).item id = t.item id := by
  cases i with
  | site v =>
    cases id with
    | site => exact absurd rfl h
    | _ => rfl
  | lane n v =>
    cases id with
    | lane k => exact congrArg (Item.lane k) (Four.get_set_ne _ _ fun e => h (congrArg ItemId.lane e))
    | _ => rfl
  | channel ch v =>
    cases id with
    | channel c =>
      refine congrArg (Item.channel c) ?_
      rw [TableSet.put, Four.get_set]
      by_cases hlane : c.lane = ch.lane
      · have hstrip : c.strip ≠ ch.strip := fun e => h (congrArg ItemId.channel (by cases c; cases ch; simp_all))
        rw [if_pos hlane, Four.get_set_ne _ _ hstrip, hlane]
      · rw [if_neg hlane]
    | _ => rfl
  | speedTab n points =>
    cases id with
    | speedTab k => exact congrArg (Item.speedTab k) (Four.get_set_ne _ _ fun e => h (congrArg ItemId.speedTab e))
    | _ => rfl
  | tempTab factors =>
    cases id with
    | tempTab => exact absurd rfl h
    | _ => rfl
  | classRule c v =>
    cases id with
    | classRule k =>
      have hk : c.val ≠ k.val := fun e => h (congrArg ItemId.classRule (Fin.ext e.symm))
      exact congrArg (fun r => Item.classRule k (Option.join r)) (List.getElem?_set_ne hk)
    | _ => rfl
  | drift v =>
    cases id with
    | drift => exact absurd rfl h
    | _ => rfl
  | probe p v =>
    cases id with
    | probe k => exact congrArg (Item.probe k) (Four.get_set_ne _ _ fun e => h (congrArg ItemId.probe e))
    | _ => rfl

/-- An item that a STAGE_PUT spells has passed its checks (R146, R147). -/
theorem stagePutItem_checked {body : List Byte} {i : Item} (h : stagePutItem body = some i) : i.ok = true := by
  unfold stagePutItem at h
  split at h
  · obtain ⟨id, -, hid⟩ := Option.bind_eq_some_iff.1 h
    obtain ⟨j, -, hj⟩ := Option.bind_eq_some_iff.1 hid
    obtain ⟨hok, heq⟩ := Option.ite_none_right_eq_some.1 hj
    cases heq
    exact hok
  · cases h

/-! ## STAGE_OPEN and STAGE_PUT -/

section
variable {s : State} (tag : Byte)

theorem exec_stageOpen_busy {x : Staging} (h : s.tables.staging = some x) :
    exec (.stageOpen tag []) s = .next (s.answer 0x10 tag [] [codeBusy]) := by
  show execStageOpen tag [] s = _
  rw [execStageOpen, h, if_neg (not_not.2 List.length_nil)]

theorem TableStore.openCopy_default {t : TableStore} (h : t.active = none) :
    t.openCopy = { set := TableSet.standard, source := none } := by
  rw [TableStore.openCopy, h]

theorem exec_stagePut_length {body : List Byte} (hlength : stagePutLength body = false) :
    exec (.stagePut tag body) s = .next (s.answer 0x11 tag body [codeBadLength]) := by
  show execStagePut tag body s = _
  rw [execStagePut, hlength]
  rfl

theorem exec_stagePut_closed {body : List Byte} (hlength : stagePutLength body = true) (h : s.tables.staging = none) :
    exec (.stagePut tag body) s = .next (s.answer 0x11 tag body [codeNoStage]) := by
  show execStagePut tag body s = _
  rw [execStagePut, hlength, h]
  rfl

theorem exec_stagePut_refused {body : List Byte} {x : Staging} (hlength : stagePutLength body = true)
    (h : s.tables.staging = some x) (hitem : stagePutItem body = none) :
    exec (.stagePut tag body) s = .next (s.answer 0x11 tag body [codeBadValue]) := by
  show execStagePut tag body s = _
  rw [execStagePut, hlength, h, hitem]
  rfl

theorem exec_stagePut_accepted {body : List Byte} {x : Staging} {i : Item} (hlength : stagePutLength body = true)
    (h : s.tables.staging = some x) (hitem : stagePutItem body = some i) :
    exec (.stagePut tag body) s =
      .next ((s.setStaging (some { x with set := x.set.put i })).answer 0x11 tag body [codeOk]) := by
  show execStagePut tag body s = _
  rw [execStagePut, hlength, h, hitem]
  rfl

end

/-- Settles O38: the two requests by the staging state; what a put item becomes by `TableSet.item_put_same` and
`TableSet.item_put_ne`. -/
theorem stagingRequests : Obligations.StagingRequests := by
  refine ⟨rfl, fun s tag => ⟨fun g hclosed hactive => ?_, fun hclosed hnone => ?_, fun x hopen => ?_, fun body hlength => ?_⟩⟩
  · refine ⟨_, exec_stageOpen_closed tag hclosed, ?_⟩
    rw [TableStore.openCopy_active hactive]
    exact State.answer_only _ _ _ _ _
  · refine ⟨_, exec_stageOpen_closed tag hclosed, ?_⟩
    rw [TableStore.openCopy_default hnone]
    exact State.answer_only _ _ _ _ _
  · exact ⟨_, exec_stageOpen_busy tag hopen, State.answer_only _ _ _ _ _⟩
  · refine ⟨fun hclosed => ⟨_, exec_stagePut_closed tag hlength hclosed, State.answer_only _ _ _ _ _⟩, fun x hopen => ⟨fun hitem => ?_,
      fun i hitem => ?_⟩⟩
    · exact ⟨_, exec_stagePut_refused tag hlength hopen hitem, State.answer_only _ _ _ _ _⟩
    · exact ⟨_, exec_stagePut_accepted tag hlength hopen hitem, State.answer_only _ _ _ _ _, stagePutItem_checked hitem,
        x.set.item_put_same i, fun id hid => x.set.item_put_ne hid⟩

/-! ## The first failing item of the first failing check -/

/-- The first of an increasing list at which a search succeeds. -/
theorem findSome_first {n : Nat} {β : Type} {l : List (Fin n)} (hsorted : l.Pairwise (· < ·)) {f : Fin n → Option β} {i : Fin n}
    {x : β} (hi : i ∈ l) (hx : f i = some x) (hbefore : ∀ k < i, f k = none) : l.findSome? f = some x := by
  induction l with
  | nil => cases hi
  | cons k ks ih =>
    obtain ⟨hhead, htail⟩ := List.pairwise_cons.1 hsorted
    rcases List.mem_cons.1 hi with rfl | hin
    · rw [List.findSome?_cons, hx]
    · rw [List.findSome?_cons, hbefore k (hhead i hin)]
      exact ih htail hin

theorem fours_sorted : fours.Pairwise (· < ·) := by decide

theorem classIndices_sorted : classIndices.Pairwise (· < ·) := List.pairwise_lt_finRange 32

section
variable (x : TableSet)

/-- Check 1 on a lane fails (R149). -/
def TableSet.fails1 (n : LaneId) : Prop := (x.lanes.get n).enabled = true ∧ (x.speedTabs.get n).length < 2

theorem TableSet.check1_fails {n : LaneId} (h : x.fails1 n) : x.check1 n = some { item := .speedTab n, check := 1 } := if_pos h

theorem TableSet.check1_passes {n : LaneId} (h : ¬ x.fails1 n) : x.check1 n = none := if_neg h

/-- Check 2 on a class rule fails (R114, R149). -/
def TableSet.fails2 (i : Fin 32) : Prop := ∃ r, x.classes[i.val]? = some (some r) ∧
  (r.axles.min - 1 < r.spacings.length ∨ r.axles.max < r.axles.min ∨ (∃ b ∈ r.spacings, b.max < b.min) ∨
    ∃ b, r.gvw = some b ∧ b.max < b.min)

theorem ClassRule.inconsistent_iff (r : ClassRule) : r.inconsistent = true ↔
    (r.axles.min - 1 < r.spacings.length ∨ r.axles.max < r.axles.min ∨ (∃ b ∈ r.spacings, b.max < b.min) ∨
      ∃ b, r.gvw = some b ∧ b.max < b.min) := by
  simp only [ClassRule.inconsistent, Bool.or_eq_true, decide_eq_true_eq, List.any_eq_true, Option.any_eq_true, or_assoc]

theorem TableSet.inconsistent_at_iff (i : Fin 32) :
    ((x.classes[i.val]?).join).any ClassRule.inconsistent = true ↔ x.fails2 i := by
  simp only [Option.any_eq_true, Option.join_eq_some_iff, ClassRule.inconsistent_iff, TableSet.fails2]

theorem TableSet.check2_fails {i : Fin 32} (h : x.fails2 i) : x.check2 i = some { item := .classRule i, check := 2 } :=
  if_pos ((x.inconsistent_at_iff i).2 h)

theorem TableSet.check2_passes {i : Fin 32} (h : ¬ x.fails2 i) : x.check2 i = none :=
  if_neg (mt (x.inconsistent_at_iff i).1 h)

/-- Check 3 fails: the drift reference class is the code of no rule (R149). -/
def TableSet.fails3 : Prop := x.drift.refClass ≠ 0 ∧ ∀ r, some r ∈ x.classes → r.code ≠ x.drift.refClass

theorem TableSet.unreferenced_iff :
    (x.drift.refClass ≠ 0 ∧ (x.classes.filterMap id).all (fun r => r.code ≠ x.drift.refClass) = true) ↔ x.fails3 := by
  refine and_congr_right fun _ => ?_
  simp only [List.all_eq_true, List.mem_filterMap, id_eq, exists_eq_right, decide_eq_true_eq]

theorem TableSet.check3_fails (h : x.fails3) : x.check3 = some { item := .drift, check := 3 } := if_pos (x.unreferenced_iff.2 h)

theorem TableSet.check3_passes (h : ¬ x.fails3) : x.check3 = none := if_neg (mt x.unreferenced_iff.1 h)

/-- Check 4 on a probe fails: it shares its role, PRIMARY or ALTERNATE, with a lower-numbered one (R149). -/
def TableSet.fails4 (p : ProbeId) : Prop :=
  ((x.probes.get p).role = .primary ∨ (x.probes.get p).role = .alternate) ∧
    ∃ q, q < p ∧ (x.probes.get q).role = (x.probes.get p).role

theorem TableSet.mem_rolesBelow (p : ProbeId) (r : Role) : r ∈ x.rolesBelow p ↔ ∃ q, q < p ∧ (x.probes.get q).role = r := by
  have hlist : x.probes.toList = fours.map x.probes.get := rfl
  have htake : ∀ p q : ProbeId, q ∈ fours.take p.val ↔ q < p := by decide
  rw [TableSet.rolesBelow, hlist, ← List.map_take, List.map_map, List.mem_map]
  exact exists_congr fun q => and_congr_left fun _ => htake p q

theorem TableSet.check4_fails {p : ProbeId} (h : x.fails4 p) : x.check4 p = some { item := .probe p, check := 4 } :=
  if_pos ⟨h.1, (x.mem_rolesBelow p _).2 h.2⟩

theorem TableSet.check4_passes {p : ProbeId} (h : ¬ x.fails4 p) : x.check4 p = none :=
  if_neg fun hf => h ⟨hf.1, (x.mem_rolesBelow p _).1 hf.2⟩

/-- Check 5 on a probe fails (R149). -/
def TableSet.fails5 (p : ProbeId) : Prop := (x.probes.get p).role ≠ .none ∧ (x.probes.get p).points.length < 2

theorem TableSet.check5_fails {p : ProbeId} (h : x.fails5 p) : x.check5 p = some { item := .probe p, check := 5 } := if_pos h

theorem TableSet.check5_passes {p : ProbeId} (h : ¬ x.fails5 p) : x.check5 p = none := if_neg h

/-! ### The chain of the five checks -/

variable {x}

theorem TableSet.check1_none (h : ∀ n, ¬ x.fails1 n) : fours.findSome? x.check1 = none :=
  List.findSome?_eq_none_iff.2 fun n _ => x.check1_passes (h n)

theorem TableSet.check2_none (h : ∀ i, ¬ x.fails2 i) : classIndices.findSome? x.check2 = none :=
  List.findSome?_eq_none_iff.2 fun i _ => x.check2_passes (h i)

theorem TableSet.check4_none (h : ∀ p, ¬ x.fails4 p) : fours.findSome? x.check4 = none :=
  List.findSome?_eq_none_iff.2 fun p _ => x.check4_passes (h p)

theorem TableSet.check5_none (h : ∀ p, ¬ x.fails5 p) : fours.findSome? x.check5 = none :=
  List.findSome?_eq_none_iff.2 fun p _ => x.check5_passes (h p)

theorem TableSet.firstFailure_check1 {n : LaneId} (h : x.fails1 n) (hbefore : ∀ k < n, ¬ x.fails1 k) :
    x.firstFailure = some { item := .speedTab n, check := 1 } := by
  rw [TableSet.firstFailure, findSome_first fours_sorted (mem_fours n) (x.check1_fails h) fun k hk => x.check1_passes (hbefore k hk)]
  rfl

theorem TableSet.firstFailure_check2 (h1 : ∀ n, ¬ x.fails1 n) {i : Fin 32} (h : x.fails2 i) (hbefore : ∀ k < i, ¬ x.fails2 k) :
    x.firstFailure = some { item := .classRule i, check := 2 } := by
  rw [TableSet.firstFailure, TableSet.check1_none h1, findSome_first classIndices_sorted (List.mem_finRange i) (x.check2_fails h)
    fun k hk => x.check2_passes (hbefore k hk)]
  rfl

section
variable (h1 : ∀ n, ¬ x.fails1 n) (h2 : ∀ i, ¬ x.fails2 i)
include h1 h2

theorem TableSet.firstFailure_check3 (h : x.fails3) : x.firstFailure = some { item := .drift, check := 3 } := by
  rw [TableSet.firstFailure, TableSet.check1_none h1, TableSet.check2_none h2, x.check3_fails h]
  rfl

variable (h3 : ¬ x.fails3)
include h3

theorem TableSet.firstFailure_check4 {p : ProbeId} (h : x.fails4 p) (hbefore : ∀ k < p, ¬ x.fails4 k) :
    x.firstFailure = some { item := .probe p, check := 4 } := by
  rw [TableSet.firstFailure, TableSet.check1_none h1, TableSet.check2_none h2, x.check3_passes h3,
    findSome_first fours_sorted (mem_fours p) (x.check4_fails h) fun k hk => x.check4_passes (hbefore k hk)]
  rfl

variable (h4 : ∀ p, ¬ x.fails4 p)
include h4

theorem TableSet.firstFailure_check5 {p : ProbeId} (h : x.fails5 p) (hbefore : ∀ k < p, ¬ x.fails5 k) :
    x.firstFailure = some { item := .probe p, check := 5 } := by
  rw [TableSet.firstFailure, TableSet.check1_none h1, TableSet.check2_none h2, x.check3_passes h3, TableSet.check4_none h4,
    findSome_first fours_sorted (mem_fours p) (x.check5_fails h) fun k hk => x.check5_passes (hbefore k hk)]
  rfl

theorem TableSet.firstFailure_none (h5 : ∀ p, ¬ x.fails5 p) : x.firstFailure = none := by
  rw [TableSet.firstFailure, TableSet.check1_none h1, TableSet.check2_none h2, x.check3_passes h3, TableSet.check4_none h4,
    TableSet.check5_none h5]
  rfl

end

end

/-! ## STAGE_COMMIT -/

section
variable {s : State} {tag flags : Byte}

theorem commitFlags_byte (flags : Byte) : commitFlags [flags] = flagOf flags.toNat := by
  rw [commitFlags]
  simp [leNat]

theorem flagOf_some {n : Nat} (h : n ≤ 1) : ∃ on, flagOf n = some on := by
  match n, h with
  | 0, _ => exact ⟨false, rfl⟩
  | 1, _ => exact ⟨true, rfl⟩

theorem exec_stageCommit_flags (h : 1 < flags.toNat) :
    exec (.stageCommit tag [flags]) s = .next (s.answer 0x13 tag [flags] [codeBadValue]) := by
  show execStageCommit tag [flags] s = _
  rw [execStageCommit, if_neg (by simp), commitFlags_byte, flagOf_none h]

theorem exec_stageCommit_closed (h : flags.toNat ≤ 1) (hclosed : s.tables.staging = none) :
    exec (.stageCommit tag [flags]) s = .next (s.answer 0x13 tag [flags] [codeNoStage]) := by
  obtain ⟨on, hon⟩ := flagOf_some h
  show execStageCommit tag [flags] s = _
  rw [execStageCommit, if_neg (by simp), commitFlags_byte, hon, hclosed]

theorem exec_stageCommit_busy (h : flags.toNat ≤ 1) {x : Staging} (hopen : s.tables.staging = some x) {g : Generation}
    (hretiring : s.tables.retiring = some g) :
    exec (.stageCommit tag [flags]) s = .next (s.answer 0x13 tag [flags] [codeBusy]) := by
  obtain ⟨on, hon⟩ := flagOf_some h
  show execStageCommit tag [flags] s = _
  rw [execStageCommit, if_neg (by simp), commitFlags_byte, hon, hopen, hretiring]
  rfl

theorem exec_stageCommit_invalid (h : flags.toNat ≤ 1) {x : Staging} (hopen : s.tables.staging = some x)
    (hretiring : s.tables.retiring = none) {f : Failure} (hf : x.set.firstFailure = some f) :
    exec (.stageCommit tag [flags]) s = .next (s.answer 0x13 tag [flags]
      [codeInvalidItem, BitVec.ofNat 8 f.item.codes.1, BitVec.ofNat 8 f.item.codes.2, BitVec.ofNat 8 f.check]) := by
  obtain ⟨on, hon⟩ := flagOf_some h
  show execStageCommit tag [flags] s = _
  rw [execStageCommit, if_neg (by simp), commitFlags_byte, hon, hopen, hretiring]
  simp only [hf, Option.isSome_none, Bool.false_eq_true, if_false]

end

/-- Settles O41: the flags, the staging state and the retiring generation are tested first, then the checks in order. -/
theorem commitIsRefused : Obligations.CommitIsRefused := by
  intro s tag refused
  refine ⟨fun flags hflags => ⟨_, exec_stageCommit_flags hflags, State.answer_only _ _ _ _ _⟩, fun flags hflags =>
    ⟨fun hclosed => ⟨_, exec_stageCommit_closed hflags hclosed, State.answer_only _ _ _ _ _⟩, fun x hopen =>
      ⟨fun g hg => ⟨_, exec_stageCommit_busy hflags hopen hg, State.answer_only _ _ _ _ _⟩, fun hretiring => ?_⟩⟩⟩
  intro fails1 fails2 fails3 role fails4 fails5 pass1 pass2 pass4
  have hrefused : ∀ {f : Failure}, x.set.firstFailure = some f →
      refused flags [0x07, BitVec.ofNat 8 f.item.codes.1, BitVec.ofNat 8 f.item.codes.2, BitVec.ofNat 8 f.check] :=
    fun hf => ⟨_, exec_stageCommit_invalid hflags hopen hretiring hf, State.answer_only _ _ _ _ _⟩
  refine ⟨fun n h hbefore => hrefused (TableSet.firstFailure_check1 h hbefore),
    fun h1 i h hbefore => hrefused (TableSet.firstFailure_check2 h1 h hbefore),
    fun h2 h => hrefused (TableSet.firstFailure_check3 h2.1 h2.2 h),
    fun h2 h3 p h hbefore => hrefused (TableSet.firstFailure_check4 h2.1 h2.2 h3 h hbefore),
    fun h4 p h hbefore => hrefused (TableSet.firstFailure_check5 h4.1.1 h4.1.2 h4.2.1 h4.2.2 h hbefore),
    fun h4 h5 => TableSet.firstFailure_none h4.1.1 h4.1.2 h4.2.1 h4.2.2 h5⟩

end Sys2Proof.Machine
end

section
/-! A STAGE_COMMIT that passes: the new generation, and the run of adoptions by the quiet lanes that follows it (O40). -/

namespace Sys2Proof.Machine

/-! ## The settling of the lanes as a run of adoptions -/

section
variable {s : State} {g : Generation}

theorem State.adopt_active (hg : s.tables.active = some g) (ln : LaneId) : (s.adopt ln).tables.active = some g := by
  rw [State.adopt_tables hg, State.freeRetiring_tables, State.taken_tables]
  exact hg

/-- Another lane's adoption makes no lane's holding stale or fresh. -/
theorem State.adopt_stale_ne (hg : s.tables.active = some g) {ln k : LaneId} (hk : k ≠ ln) :
    (s.adopt ln).stale k = s.stale k := by
  rw [State.stale, State.stale, State.adopt_active hg, hg, State.adopt_lanes hg, Four.get_set_ne _ _ hk]

/-- Lanes that adopt where they are quiet and stale, told in turn, adopt where they were so at the start. -/
theorem State.settle_run (p : LaneId → Bool) (rest : List LaneId) (hnodup : rest.Nodup) (hg : s.tables.active = some g)
    (hp : ∀ ln ∈ rest, (s.quiet ln && s.stale ln) = p ln) :
    rest.foldl State.adoptIfQuiet s = rest.foldl (State.adoptWhere p) s := by
  induction rest generalizing s with
  | nil => rfl
  | cons k rest ih =>
    obtain ⟨hk, hrest⟩ := List.nodup_cons.1 hnodup
    have hstep : s.adoptIfQuiet k = s.adoptWhere p k := by
      rw [State.adoptIfQuiet, State.adoptWhere, hp k List.mem_cons_self]
    rw [List.foldl_cons, List.foldl_cons, hstep]
    unfold State.adoptWhere
    by_cases hpk : p k = true
    · rw [if_pos hpk]
      refine ih hrest (State.adopt_active hg k) fun ln hln => ?_
      rw [State.adopt_quiet, State.adopt_stale_ne hg (ln := k) (k := ln) fun heq => hk (heq ▸ hln)]
      exact hp ln (List.mem_cons_of_mem k hln)
    · rw [if_neg hpk]
      exact ih hrest hg fun ln hln => hp ln (List.mem_cons_of_mem k hln)

end

/-! ## The promoted set -/

theorem nextGeneration_eq (counter : Nat) : nextGeneration counter = if counter < 65535 then counter + 1 else 1 := by
  unfold nextGeneration
  by_cases h : counter < 65535
  · rw [if_neg (Nat.not_le.2 h), if_pos h]
  · rw [if_pos (Nat.not_lt.1 h), if_neg h]

/-- The next generation's number is not the present one's (R151). -/
theorem nextGeneration_ne (counter : Nat) : nextGeneration counter ≠ counter := by
  unfold nextGeneration
  split
  · omega
  · omega

theorem State.promote_quiet (s : State) (set : TableSet) (reset : Bool) (ln : LaneId) :
    (s.promote set reset).quiet ln = s.quiet ln := by
  have hkept := s.promote_lanesKept set reset
  simp only [State.quiet, hkept.asm, hkept.matcher]
  rfl

/-- Waiting settings change no unit's service, so no lane's reported state (R74). -/
theorem State.promote_reported (s : State) (set : TableSet) (reset : Bool) (ln : LaneId) :
    ((s.promote set reset).lanes.get ln).reported = (s.lanes.get ln).reported := by
  rw [State.promote_lane]
  rfl

section
variable {s : State} {x : TableSet} {reset : Bool}

/-- No lane holds the generation that a commit makes. -/
theorem State.promote_stale (h : s.GenerationInv) (hnone : s.tables.retiring = none) (ln : LaneId) :
    (s.promote x reset).stale ln = true := by
  obtain ⟨hcounter, -, hadopted, -⟩ := h
  refine (State.stale_iff (s := s.promote x reset) rfl ln).2 fun held hheld heq => ?_
  rw [(s.promote_lanesKept x reset).asm] at hheld
  have hactive : s.tables.active = some held := (hadopted ln held hheld).resolve_right (by simp [hnone])
  rw [hactive] at hcounter
  exact nextGeneration_ne s.tables.counter (heq.symm.trans hcounter.1)

/-- The lanes' adoptions at a commit. -/
theorem State.commit_adopted (h : s.GenerationInv) (hnone : s.tables.retiring = none) :
    State.Adopted s.quiet (x.generation (nextGeneration s.tables.counter)) (s.promote x reset) (s.promote x reset).settle fours := by
  have hrun := State.settle_run (s := s.promote x reset) s.quiet fours (by decide) rfl fun ln _ => by
    rw [State.promote_quiet, State.promote_stale h hnone, Bool.and_true]
  rw [State.settle, hrun]
  exact State.adopted_fours s.quiet rfl

theorem State.commit_only : s.commit x reset =
    { (s.promote x reset).settle with tables := (s.commit x reset).tables } := State.freeRetiring_only _

end

theorem commitFlags_reset (reset : Bool) : commitFlags [if reset then 1 else 0] = some reset := by
  cases reset <;> rfl

theorem exec_stageCommit_passes {s : State} {tag : Byte} {x : Staging} {reset : Bool} (hopen : s.tables.staging = some x)
    (hretiring : s.tables.retiring = none) (hpass : x.set.firstFailure = none) :
    exec (.stageCommit tag [if reset then 1 else 0]) s = .next ((s.commit x.set reset).answer 0x13 tag [if reset then 1 else 0]
      (codeOk :: (optZero 2 ((s.commit x.set reset).tables.active.map Generation.number) ++
        optZero 2 ((s.commit x.set reset).tables.retiring.map Generation.number)))) := by
  show execStageCommit tag [if reset then 1 else 0] s = _
  rw [execStageCommit, if_neg (by simp), commitFlags_reset, hopen, hretiring]
  simp only [hpass, Option.isSome_none, Bool.false_eq_true, if_false]

/-! ## The tables after a commit -/

section
variable {s : State} {x : TableSet} {reset : Bool} (h : s.GenerationInv) (hnone : s.tables.retiring = none)
include h hnone

theorem State.commit_tables : (s.commit x reset).tables =
    { staging := none, active := some (x.generation (nextGeneration s.tables.counter))
      retiring := (s.commit x reset).tables.retiring, counter := nextGeneration s.tables.counter } := by
  have hadopted := State.commit_adopted (x := x) (reset := reset) h hnone
  rw [State.commit, State.freeRetiring_tables, hadopted.tables]
  rfl

/-- What a lane holds after a commit: the new generation where it was quiet, and otherwise what it held (R75, R153). -/
theorem State.commit_lane (ln : LaneId) : (s.commit x reset).lanes.get ln =
    if s.quiet ln = true then ((s.promote x reset).adopting (x.generation (nextGeneration s.tables.counter)) ln).lanes.get ln
    else (s.promote x reset).lanes.get ln := by
  rw [State.commit_only, (State.commit_adopted h hnone).lanes]
  exact if_congr (and_iff_right (mem_fours ln)) rfl rfl

theorem State.commit_asm_quiet {ln : LaneId} (hq : s.quiet ln = true) : (s.commit x reset).asm ln =
    (s.asm ln).adopt (x.generation (nextGeneration s.tables.counter)) (x.lanes.get ln) := by
  rw [State.asm, State.commit_lane h hnone, if_pos hq, State.adopting, State.setLane_lanes, Four.get_set_same,
    (s.promote_lanesKept x reset).asm]
  rfl

theorem State.commit_matcher_quiet {ln : LaneId} (hq : s.quiet ln = true) : (s.commit x reset).matcher ln =
    { s.matcher ln with windows := some (windowsOf (x.lanes.get ln) s.tb.nRef) } := by
  rw [State.matcher, State.commit_lane h hnone, if_pos hq, State.adopting, State.setLane_lanes, Four.get_set_same,
    (s.promote_lanesKept x reset).matcher]
  rfl

theorem State.commit_lane_busy {ln : LaneId} (hq : s.quiet ln = false) :
    (s.commit x reset).asm ln = s.asm ln ∧ (s.commit x reset).matcher ln = s.matcher ln := by
  rw [State.asm, State.matcher, State.commit_lane h hnone, if_neg (by simp [hq])]
  exact ⟨(s.promote_lanesKept x reset).asm ln, (s.promote_lanesKept x reset).matcher ln⟩

/-- After a commit some lane holds the generation before it exactly when a lane that was not quiet held it. -/
theorem State.commit_holds_old {old : Generation} (hactive : s.tables.active = some old) :
    (∃ k held, ((s.commit x reset).asm k).adopted = some held ∧ held.number = old.number) ↔
      ∃ held ln, s.quiet ln = false ∧ (s.asm ln).adopted = some held ∧ held.number = old.number := by
  obtain ⟨hcounter, -, -, -⟩ := id h
  rw [hactive] at hcounter
  obtain ⟨hnumber, -, -⟩ := hcounter
  constructor
  · rintro ⟨k, held, hheld, heq⟩
    cases hq : s.quiet k with
    | false =>
      rw [(State.commit_lane_busy h hnone hq).1] at hheld
      exact ⟨held, k, hq, hheld, heq⟩
    | true =>
      rw [State.commit_asm_quiet h hnone hq] at hheld
      cases hheld
      exact absurd (heq.trans hnumber) (nextGeneration_ne _)
  · rintro ⟨held, ln, hq, hheld, heq⟩
    exact ⟨ln, held, by rw [(State.commit_lane_busy h hnone hq).1]; exact hheld, heq⟩

/-- The generation before a commit is retiring while a lane still holds it (R153). -/
theorem State.commit_retiring {old : Generation} (hactive : s.tables.active = some old) :
    ((∃ k held, ((s.commit x reset).asm k).adopted = some held ∧ held.number = old.number) →
      (s.commit x reset).tables.retiring = some old) ∧
    (¬(∃ k held, ((s.commit x reset).asm k).adopted = some held ∧ held.number = old.number) →
      (s.commit x reset).tables.retiring = none) := by
  have hadopted := State.commit_adopted (x := x) (reset := reset) h hnone
  obtain ⟨hcounter, -, -, -⟩ := id h
  rw [hactive] at hcounter
  obtain ⟨hnumber, -, -⟩ := hcounter
  have hne : nextGeneration s.tables.counter ≠ old.number := fun heq => nextGeneration_ne _ (heq.trans hnumber)
  have hasm : ∀ k, (s.commit x reset).asm k = (s.promote x reset).settle.asm k := fun k => by rw [State.commit_only]; rfl
  simp only [hasm]
  rw [State.commit]
  rcases hadopted.freed old hactive hne with hretiring | ⟨hfreed, hfree⟩
  · rw [State.freeRetiring_some hretiring]
    refine ⟨fun hheld => ?_, fun hheld => ?_⟩
    · rw [if_pos ((State.someLaneHolds_iff _ _).2 hheld)]
      exact hretiring
    · rw [if_neg (mt (State.someLaneHolds_iff _ _).1 hheld)]
  · rw [State.freeRetiring_none hfreed]
    refine ⟨?_, fun _ => hfreed⟩
    rintro ⟨k, held, hheld, heq⟩
    exact absurd heq (hfree k held hheld)

theorem State.commit_retiring_none (hactive : s.tables.active = none) : (s.commit x reset).tables.retiring = none := by
  have hadopted := State.commit_adopted (x := x) (reset := reset) h hnone
  have hfreed := hadopted.unfreed hactive
  rw [State.commit, State.freeRetiring_none hfreed]
  exact hfreed

/-- What the Capture Unit learns of a commit: that its lane went OUT, if it did (R178). -/
theorem State.commit_capture :
    let goesOut : LaneId → Prop := fun ln =>
      s.quiet ln = true ∧ (s.asm ln).service = .inService ∧ (x.lanes.get ln).enabled = false
    (∀ ln, s.capture.lane = some ln → goesOut ln → CaptureToldOut s (s.commit x reset) ln) ∧
    ((∀ ln, s.capture.lane = some ln → ¬ goesOut ln) →
      (s.commit x reset).capture = s.capture ∧ (s.commit x reset).mail.toCapture = s.mail.toCapture) := by
  intro goesOut
  have hadopted := State.commit_adopted (x := x) (reset := reset) h hnone
  have hgoes : ∀ ln, (s.promote x reset).goesOut s.quiet (x.generation (nextGeneration s.tables.counter)) ln ↔ goesOut ln := by
    intro ln
    unfold State.goesOut
    rw [(s.promote_lanesKept x reset).asm]
    exact Iff.rfl
  rw [State.commit_only]
  refine ⟨fun ln hlane hout => ?_, fun hstay => ?_⟩
  · exact (hadopted.told ln (mem_fours ln) hlane ((hgoes ln).2 hout)).congr rfl rfl rfl rfl
  · exact hadopted.kept fun ln _ hlane => mt (hgoes ln).1 (hstay ln hlane)

theorem State.commit_link : (s.commit x reset).link = fours.foldl (fun l ln =>
    if ((s.commit x reset).lanes.get ln).reported = (s.lanes.get ln).reported then l else l.raised (laneChange ln)) s.link := by
  have hadopted := State.commit_adopted (x := x) (reset := reset) h hnone
  have hlink := hadopted.link
  simp only [State.promote_reported] at hlink
  rw [State.commit_only]
  exact hlink

theorem State.commit_untouched : s.commit x reset = { s with
    tables := (s.commit x reset).tables, lanes := (s.commit x reset).lanes, capture := (s.commit x reset).capture
    link := (s.commit x reset).link
    mail := { s.mail with
      toCapture := (s.commit x reset).mail.toCapture
      tempOffers := s.mail.tempOffers ++ [x]
      driftOffers := s.mail.driftOffers ++ [{ policy := x.drift, reset := reset }]
      siteOffers := s.mail.siteOffers ++ [x.site] } } := by
  have honly := (State.commit_adopted (x := x) (reset := reset) h hnone).only
  have hcommit := State.commit_only (s := s) (x := x) (reset := reset)
  generalize s.commit x reset = m at hcommit
  rw [honly] at hcommit
  rw [hcommit]
  rfl

end

/-- Settles O40: the lemmas on `State.commit`, which are those of `State.Adopted` for the promoted state. -/
theorem commitMakesGeneration : Obligations.CommitMakesGeneration := by
  intro s tag x reset h hopen hnone hpass n g kept
  have hn : nextGeneration s.tables.counter = n := nextGeneration_eq _
  have hg : x.set.generation (nextGeneration s.tables.counter) = g := by
    rw [hn]
    rfl
  have htables := State.commit_tables (x := x.set) (reset := reset) h hnone
  rw [hg, hn] at htables
  have hkept : (kept → (s.commit x.set reset).tables.retiring = s.tables.active) ∧
      (¬ kept → (s.commit x.set reset).tables.retiring = none) := by
    cases hactive : s.tables.active with
    | none =>
      refine ⟨?_, fun _ => State.commit_retiring_none h hnone hactive⟩
      rintro ⟨old, -, -, hold, -⟩
      rw [hactive] at hold
      cases hold
    | some old =>
      have hiff : kept ↔ ∃ k held, ((s.commit x.set reset).asm k).adopted = some held ∧ held.number = old.number := by
        rw [State.commit_holds_old h hnone hactive]
        refine ⟨?_, fun ⟨held, ln, hrest⟩ => ⟨old, held, ln, hactive, hrest⟩⟩
        rintro ⟨old', held, ln, hold, hrest⟩
        cases hactive.symm.trans hold
        exact ⟨held, ln, hrest⟩
      obtain ⟨hheld, hfree⟩ := State.commit_retiring (x := x.set) (reset := reset) h hnone hactive
      exact ⟨fun hk => hheld (hiff.1 hk), fun hk => hfree (mt hiff.2 hk)⟩
  refine ⟨s.commit x.set reset, _, exec_stageCommit_passes hopen hnone hpass, ?_, htables, hkept.1, hkept.2, fun ch => ?_,
    fun ln => ⟨fun hq => State.commit_lane_busy h hnone hq, fun hq => ⟨?_, State.commit_matcher_quiet h hnone hq⟩⟩,
    State.commit_capture h hnone, State.commit_link h hnone, State.commit_untouched h hnone⟩
  · have hactive : (s.commit x.set reset).tables.active = some g := (congrArg TableStore.active htables).trans rfl
    rw [hactive]
    exact State.answer_only _ _ _ _ _
  · rw [State.commit_unit, hg]
    rfl
  · rw [State.commit_asm_quiet h hnone hq, hg]
    rfl

end Sys2Proof.Machine
end

section
/-! RESTART (O52): the sixteen units put back one after another, the traffic emptied, and the run of adoptions by all four lanes. -/

namespace Sys2Proof.Machine

/-! ## The units of several lanes put back -/

/-- The units of some lanes put back one lane after another. -/
def State.putLanes (s : State) (f : ChannelId → ChannelUnit → ChannelUnit) (lanes : List LaneId) : State :=
  lanes.foldl (fun u ln => u.putLane ln f) s

section
variable {s t : State} {f : ChannelId → ChannelUnit → ChannelUnit}

theorem State.restartUnits_eq (s : State) : s.restartUnits = s.putLanes (fun _ u => u.restart.adopt) fours := by
  unfold State.restartUnits allChannels State.putLanes State.putLane
  simp only [List.foldl_flatMap, List.foldl_map]

/-- The lanes and the link after the units of some lanes have been put back, when t's units are what they become. -/
theorem State.putLanes_upTo (ht : ∀ ch, t.unit ch = f ch (s.unit ch)) (lanes : List LaneId) (hnodup : lanes.Nodup) {u : State}
    (hu : ∀ ln ∈ lanes, u.lanes.get ln = s.lanes.get ln) :
    (∀ k, (u.putLanes f lanes).lanes.get k = if k ∈ lanes then laneUpTo s t k 4 else u.lanes.get k) ∧
      (u.putLanes f lanes).link =
        (lanes.flatMap fun ln => fours.map fun p => (⟨ln, p⟩ : ChannelId)).foldl (channelNotices s t) u.link := by
  induction lanes generalizing u with
  | nil => exact ⟨fun k => (if_neg (by simp)).symm, rfl⟩
  | cons ln rest ih =>
    obtain ⟨hln, hrest⟩ := List.nodup_cons.1 hnodup
    obtain ⟨hlane, hlink⟩ := State.putLane_upTo (t := t) (f := f) (hu ln List.mem_cons_self) fun p => ht ⟨ln, p⟩
    obtain ⟨hlanes, hlinks⟩ := ih hrest (u := u.putLane ln f) fun k hk => by
      rw [State.putLane_lane_ne u f fun heq : k = ln => hln (heq ▸ hk)]
      exact hu k (List.mem_cons_of_mem ln hk)
    refine ⟨fun k => ?_, ?_⟩
    · refine (hlanes k).trans ?_
      by_cases hk : k = ln
      · subst hk
        rw [if_neg hln, if_pos List.mem_cons_self, hlane]
      · rw [State.putLane_lane_ne u f hk]
        exact if_congr (by simp [hk]) rfl rfl
    · refine hlinks.trans ?_
      rw [hlink, List.flatMap_cons, List.foldl_append]

theorem State.putLanes_only (s : State) (f : ChannelId → ChannelUnit → ChannelUnit) (lanes : List LaneId) :
    s.putLanes f lanes = { s with lanes := (s.putLanes f lanes).lanes, link := (s.putLanes f lanes).link } := by
  unfold State.putLanes
  induction lanes generalizing s with
  | nil => rfl
  | cons ln rest ih => rw [List.foldl_cons, ih, State.putLane_only]

theorem State.putLanes_unit (s : State) (f : ChannelId → ChannelUnit → ChannelUnit) (lanes : List LaneId) (hnodup : lanes.Nodup)
    (ch : ChannelId) : (s.putLanes f lanes).unit ch = if ch.lane ∈ lanes then f ch (s.unit ch) else s.unit ch := by
  unfold State.putLanes
  induction lanes generalizing s with
  | nil => exact (if_neg (by simp)).symm
  | cons ln rest ih =>
    obtain ⟨hln, hrest⟩ := List.nodup_cons.1 hnodup
    rw [List.foldl_cons, ih _ hrest]
    by_cases hch : ch.lane = ln
    · subst hch
      rw [if_neg hln, if_pos List.mem_cons_self]
      exact s.putLane_unit ch.lane f ch.strip
    · rw [State.putLane_unit_ne s f hch]
      exact if_congr (by simp [hch]) rfl rfl

end

section
variable (s : State)

/-- Each unit after a restart (R36). -/
theorem State.restartUnits_unit (ch : ChannelId) : s.restartUnits.unit ch = (s.unit ch).restart.adopt := by
  rw [State.restartUnits_eq, State.putLanes_unit s _ fours (by decide), if_pos (mem_fours ch.lane)]

/-- The lanes and the link after the units have been put back, in the terms of any state that holds the units they became. -/
theorem State.restartUnits_upTo {t : State} (ht : ∀ ch, t.unit ch = (s.unit ch).restart.adopt) :
    (∀ ln, s.restartUnits.lanes.get ln = laneUpTo s t ln 4) ∧ s.restartUnits.link = unitNotices s t allChannels := by
  obtain ⟨hlanes, hlink⟩ := State.putLanes_upTo (f := fun _ u => u.restart.adopt) ht fours (by decide) fun _ _ => rfl
  rw [State.restartUnits_eq]
  exact ⟨fun ln => (hlanes ln).trans (if_pos (mem_fours ln)), hlink⟩

theorem State.restartUnits_only :
    s.restartUnits = { s with lanes := s.restartUnits.lanes, link := s.restartUnits.link } := by
  rw [State.restartUnits_eq]
  exact s.putLanes_only _ fours

/-- A restarted unit that adopts, in the words of the rules (R33, R34, R36). -/
theorem ChannelUnit.restart_adopt (x : ChannelUnit) :
    let u := { x with detector := .quiet, overlong := 0, miss := 0, seed := true }
    (u.waiting = none → x.restart.adopt = u) ∧
    ∀ w, u.waiting = some w →
      let v := { u with settings := some w.settings, generation := some w.generation, waiting := none }
      x.restart.adopt =
        if w.settings.enabled then (if u.service = .disabled then { v with service := .active } else v)
        else if u.service = .disabled then v
        else { v with service := .disabled, lastExcess := 0 } := by
  intro u
  have hadopt : x.restart.adopt = settled u := ChannelUnit.adopt_eq_settled rfl
  rw [hadopt]
  refine ⟨fun hnone => ?_, fun w hw => ?_⟩
  · rw [settled, hnone]
  · rw [settled, hw]

/-! ## The state that the lanes adopt from -/

theorem State.restartGate_eq : s.restartGate = { s with temp := { s.temp with gate := s.temp.gate.map fun g =>
    { probe := g.probe, start := s.tb.t, length := s.temp.gateLength, base := (s.probe g.probe).edges } } } := by
  unfold State.restartGate
  cases hgate : s.temp.gate with
  | none =>
    have htemp : s.temp = { s.temp with gate := none } := by rw [← hgate]
    exact congrArg (fun u => { s with temp := u }) htemp
  | some g => rfl

theorem State.emptied_only : s.emptied = { s with
    lanes := s.emptied.lanes, link := s.emptied.link
    mail := { s.mail with
      reports := [], toCapture := s.mail.toCapture.map fun d => { d with opened := none, laneOut := false } }
    temp := { s.temp with gate := s.temp.gate.map fun g =>
      { probe := g.probe, start := s.tb.t, length := s.temp.gateLength, base := (s.probe g.probe).edges } }
    tables := { s.tables with staging := none }
    capture := CaptureUnit.start } := by
  have honly := s.restartUnits_only
  have hemptied : s.emptied = { s.restartUnits.discardTraffic.restartGate.setStaging none with capture := CaptureUnit.start } := rfl
  rw [State.restartGate_eq] at hemptied
  generalize s.restartUnits = u at honly hemptied
  rw [hemptied, honly]
  rfl

/-- A lane of a restart that is about to adopt, as it is reported (R74). -/
theorem State.emptied_reported {t : State} (ht : ∀ ch, t.unit ch = (s.unit ch).restart.adopt) (ln : LaneId) :
    (s.emptied.lanes.get ln).reported = (laneUpTo s t ln 4).reported := by
  rw [State.emptied_lanes, Four.get_map, (s.restartUnits_upTo ht).1]
  rfl

/-! ## The adoption of all four lanes -/

theorem State.adopts_none (hnone : s.tables.active = none) (lanes : List LaneId) : lanes.foldl State.adopt s = s := by
  induction lanes with
  | nil => rfl
  | cons ln rest ih => rw [List.foldl_cons, State.adopt_none hnone, ih]

theorem State.adopts_adopted {g : Generation} (hg : s.tables.active = some g) :
    State.Adopted (fun _ => true) g s (fours.foldl State.adopt s) fours := State.adopted_fours (fun _ => true) hg

end

/-! ### Freeing the retiring generation after a run of adoptions -/

theorem State.freeRetiring_asm (s : State) (ln : LaneId) : s.freeRetiring.asm ln = s.asm ln :=
  (State.freeRetiring_lanesKept s).asm ln

theorem State.freeRetiring_lane (s : State) (ln : LaneId) : s.freeRetiring.lanes.get ln = s.lanes.get ln := by
  rw [State.freeRetiring_only]

theorem State.with_tables {s : State} {x : TableStore} (h : s.tables = x) : s = { s with tables := x } := by
  subst h
  rfl

/-- A run of adoptions that tells the Capture Unit nothing and leaves no generation retiring. -/
theorem State.Adopted.freeRetiring_quietly {p : LaneId → Bool} {g : Generation} {s t : State} {done : List LaneId}
    (h : State.Adopted p g s t done) (hstay : ∀ ln ∈ done, s.capture.lane = some ln → ¬ s.goesOut p g ln)
    (hretiring : t.freeRetiring.tables.retiring = none) : t.freeRetiring = { s with
      lanes := t.freeRetiring.lanes, link := t.freeRetiring.link, tables := { s.tables with retiring := none } } := by
  obtain ⟨hcapture, hcoming⟩ := h.kept hstay
  have htables : t.freeRetiring.tables = { s.tables with retiring := none } := by
    rw [← hretiring, State.freeRetiring_tables, h.tables]
  have honly := h.only
  rw [hcapture, hcoming] at honly
  have hfree := t.freeRetiring_only
  rw [htables] at hfree
  generalize t.freeRetiring = u at hfree
  rw [honly] at hfree
  rw [hfree]

/-- The restart's state after its lanes have adopted and before the tallies reopen. -/
def State.restarted (s : State) : State := (fours.foldl State.adopt s.emptied).freeRetiring

theorem State.restartBlocks_restarted (s : State) : s.restartBlocks = s.restarted.reopenTallies := s.restartBlocks_eq

section
variable {s : State}

theorem State.emptied_active (s : State) : s.emptied.tables.active = s.tables.active := by rw [State.emptied_tables]

theorem State.emptied_tb (s : State) : s.emptied.tb = s.tb := by rw [s.emptied_only]

theorem State.emptied_capture (s : State) : s.emptied.capture = CaptureUnit.start := by rw [s.emptied_only]

theorem State.emptied_retiring (s : State) : s.emptied.tables.retiring = s.tables.retiring := by rw [State.emptied_tables]

/-- With no active generation a restart adopts nothing. -/
theorem State.restarted_none (h : s.GenerationInv) (hnone : s.tables.active = none) : s.restarted = s.emptied := by
  have hretiring : s.tables.retiring = none := by
    have hcounter := h.1
    rw [hnone] at hcounter
    exact hcounter.2
  rw [State.restarted, State.adopts_none _ ((State.emptied_active s).trans hnone)]
  exact State.freeRetiring_none ((State.emptied_retiring s).trans hretiring)

section
variable {g : Generation} (hg : s.tables.active = some g)
include hg

theorem State.restart_adopted :
    State.Adopted (fun _ => true) g s.emptied (fours.foldl State.adopt s.emptied) fours :=
  State.adopts_adopted _ ((State.emptied_active s).trans hg)

theorem State.restarted_lane (ln : LaneId) : s.restarted.lanes.get ln = (s.emptied.adopting g ln).lanes.get ln := by
  rw [State.restarted, State.freeRetiring_lane, (State.restart_adopted hg).lanes]
  exact if_pos ⟨mem_fours ln, rfl⟩

theorem State.restarted_asm (ln : LaneId) :
    s.restarted.asm ln = ({ s.asm ln with context := none } : Assembler).adopt g (g.set.lanes.get ln) := by
  rw [State.asm, State.restarted_lane hg, State.adopting, State.setLane_lanes, Four.get_set_same, State.emptied_asm]

theorem State.restarted_matcher (ln : LaneId) : s.restarted.matcher ln =
    { (s.matcher ln).restart with windows := some (windowsOf (g.set.lanes.get ln) s.tb.nRef) } := by
  rw [State.matcher, State.restarted_lane hg, State.adopting, State.setLane_lanes, Four.get_set_same, State.emptied_matcher,
    State.emptied_tb]

/-- All four lanes hold the active generation after a restart, so none is retiring (R153, R154). -/
theorem State.restarted_retiring (h : s.GenerationInv) : s.restarted.tables.retiring = none := by
  have hadopted := State.restart_adopted hg
  cases hretiring : s.tables.retiring with
  | none =>
    have hfreed := hadopted.unfreed ((State.emptied_retiring s).trans hretiring)
    rw [State.restarted, State.freeRetiring_none hfreed]
    exact hfreed
  | some old =>
    obtain ⟨hactive, hold, -, -⟩ := h
    rw [hg] at hactive
    have hne : g.number ≠ old.number := fun heq =>
      nextGeneration_ne old.number (((hold old hretiring).2.2.1.symm.trans hactive.1.symm).trans heq)
    rcases hadopted.freed old ((State.emptied_retiring s).trans hretiring) hne with hkept | ⟨hfreed, -⟩
    · rw [State.restarted, State.freeRetiring_some hkept, if_neg]
      rw [State.someLaneHolds_iff]
      rintro ⟨ln, held, hheld, heq⟩
      have hasm := State.restarted_asm hg ln
      rw [State.restarted, State.freeRetiring_asm] at hasm
      rw [hasm] at hheld
      cases hheld
      exact hne heq
    · rw [State.restarted, State.freeRetiring_none hfreed]
      exact hfreed

theorem State.restarted_link : s.restarted.link = fours.foldl (fun l ln =>
    if (s.restarted.lanes.get ln).reported = (s.emptied.lanes.get ln).reported then l else l.raised (laneChange ln))
      s.emptied.link := by
  have hlink := (State.restart_adopted hg).link
  simp only [← State.freeRetiring_lane (fours.foldl State.adopt s.emptied)] at hlink
  rw [State.restarted, State.freeRetiring_link]
  exact hlink

end

/-- A restart's link: the notices of the units, and then those of the lanes. -/
theorem State.restarted_notices (h : s.GenerationInv) : s.restarted.link = fours.foldl (fun l ln =>
    if (s.restarted.lanes.get ln).reported = (s.emptied.lanes.get ln).reported then l else l.raised (laneChange ln))
      s.emptied.link := by
  cases hactive : s.tables.active with
  | none =>
    rw [State.restarted_none h hactive]
    exact (List.foldlRecOn (motive := fun l => l = s.emptied.link) fours _ rfl
      fun l hl ln _ => (if_pos rfl).trans hl).symm
  | some g => exact State.restarted_link hactive

/-- What a restart leaves, besides the lanes and the link. -/
theorem State.restarted_only (h : s.GenerationInv) : s.restarted = { s.emptied with
    lanes := s.restarted.lanes, link := s.restarted.link, tables := { s.emptied.tables with retiring := none } } := by
  cases hactive : s.tables.active with
  | none =>
    rw [State.restarted_none h hactive]
    have hretiring : s.emptied.tables.retiring = none := by
      have hcounter := h.1
      rw [hactive] at hcounter
      exact (State.emptied_retiring s).trans hcounter.2
    exact State.with_tables (by rw [← hretiring])
  | some g =>
    have hretiring := State.restarted_retiring hactive h
    rw [State.restarted] at hretiring ⊢
    refine (State.restart_adopted hactive).freeRetiring_quietly (fun ln _ hlane => ?_) hretiring
    rw [State.emptied_capture] at hlane
    cases hlane

/-- The whole of a restart in the blocks. -/
theorem State.restartBlocks_only (h : s.GenerationInv) : s.restartBlocks = { s with
    lanes := s.restartBlocks.lanes, link := s.restartBlocks.link
    mail := { s.mail with
      reports := [], toCapture := s.mail.toCapture.map fun d => { d with opened := none, laneOut := false } }
    temp := { s.temp with gate := s.temp.gate.map fun g =>
      { probe := g.probe, start := s.tb.t, length := s.temp.gateLength, base := (s.probe g.probe).edges } }
    tables := { s.tables with staging := none, retiring := none }
    capture := CaptureUnit.start
    tally := { s.tally with
      active := Four.fill (Tally.opened s.temp.tw), openedAt := s.tb.seconds, extension := 0 } } := by
  have hrest := State.restarted_only h
  have hemptied := s.emptied_only
  rw [State.restartBlocks_restarted]
  generalize s.restarted = u at hrest
  generalize s.emptied = e at hrest hemptied
  rw [hemptied] at hrest
  rw [hrest]
  rfl

/-- What a restart makes of a lane's assembler and matcher (R54, R94). -/
theorem State.restartBlocks_lane_none (h : s.GenerationInv) (hactive : s.tables.active = none) (ln : LaneId) :
    s.restartBlocks.asm ln = { s.asm ln with context := none } ∧ s.restartBlocks.matcher ln = (s.matcher ln).restart := by
  rw [State.restartBlocks_restarted, (State.reopenTallies_lanesKept _).asm, (State.reopenTallies_lanesKept _).matcher,
    State.restarted_none h hactive]
  exact ⟨s.emptied_asm ln, s.emptied_matcher ln⟩

theorem State.restartBlocks_lane_some {g : Generation} (hactive : s.tables.active = some g) (ln : LaneId) :
    s.restartBlocks.asm ln = ({ s.asm ln with context := none } : Assembler).adopt g (g.set.lanes.get ln) ∧
    s.restartBlocks.matcher ln =
      { (s.matcher ln).restart with windows := some (windowsOf (g.set.lanes.get ln) s.tb.nRef) } := by
  rw [State.restartBlocks_restarted, (State.reopenTallies_lanesKept _).asm, (State.reopenTallies_lanesKept _).matcher]
  exact ⟨State.restarted_asm hactive ln, State.restarted_matcher hactive ln⟩

end

theorem exec_restart_eq (s : State) (tag : Byte) :
    exec (.restart tag []) s = .next ((s.restartBlocks.answer 0x04 tag [] [codeOk]).raise (.started false true)) := by
  show execRestart tag [] s = _
  rw [execRestart, if_neg (not_not.2 List.length_nil)]

/-- Settles O52: the units by `ChannelUnit.restart_adopt`, the lanes by whether a generation is active, the notices by
`State.restartUnits_upTo` and `State.restarted_notices`, and the rest by `State.restartBlocks_only`. -/
theorem restartRestartsBlocks : Obligations.RestartRestartsBlocks := by
  intro s tag h
  have hunit : ∀ ch, s.restartBlocks.unit ch = (s.unit ch).restart.adopt := fun ch => by
    rw [State.restartBlocks_unit, State.restartUnits_unit]
  have hlink : s.restartBlocks.link = fours.foldl (fun l ln =>
      if (s.restartBlocks.lanes.get ln).reported = (laneUpTo s s.restartBlocks ln 4).reported then l
      else l.raised (laneChange ln)) (unitNotices s s.restartBlocks allChannels) := by
    simp only [← s.emptied_reported hunit]
    rw [← (s.restartUnits_upTo hunit).2, ← State.emptied_link, State.restartBlocks_restarted, State.reopenTallies_link,
      State.reopenTallies_lanes]
    exact State.restarted_notices h
  have hnone := State.restartBlocks_lane_none h
  have hsome := fun g => State.restartBlocks_lane_some (s := s) (g := g)
  have honly := State.restartBlocks_only h
  have hexec := exec_restart_eq s tag
  generalize s.restartBlocks = m at hunit hlink hnone hsome honly hexec
  refine ⟨m, _, _, hexec, State.answer_only _ _ _ _ _, rfl, fun ch => ?_, fun ln => ?_, hlink, honly⟩
  · rw [hunit]
    exact (s.unit ch).restart_adopt
  · exact ⟨fun hidle => hnone hidle ln, fun g hg => hsome g hg ln⟩

end Sys2Proof.Machine
end

section
/-! The receiver of the Message Link, the frames it refuses, and the round trip of a request's frame (R179, R180, R181). -/

namespace Sys2Proof.Machine

/-! ## One byte at a time (R180) -/

section
variable {l : Link} {byte : Byte}

theorem Link.takeByte_fault (h : l.rx ≠ .hunt) : l.takeByte byte true = l.discardFrame := by
  unfold Link.takeByte
  split
  · next hrx => exact absurd hrx h
  all_goals rfl

theorem Link.takeByte_noise {fault : Bool} (h : l.rx = .hunt) (hsync : byte ≠ 0x5C) : l.takeByte byte fault = l := by
  simp only [Link.takeByte, h, if_neg hsync]

theorem Link.takeByte_sync (h : l.rx = .hunt) : l.takeByte 0x5C false = { l with rx := .header [] } := by
  simp [Link.takeByte, h]

theorem Link.takeByte_sync_fault (h : l.rx = .hunt) : l.takeByte 0x5C true = l.discardFrame := by
  simp [Link.takeByte, h]

theorem Link.takeByte_header {got : List Byte} (h : l.rx = .header got) (hgot : got.length < 3) :
    l.takeByte byte false = { l with rx := .header (got ++ [byte]) } := by
  simp [Link.takeByte, h, hgot]

/-- The header that three bytes and a fourth spell. -/
def headerFrom (low high kind tag : Byte) : FrameHeader := { length := low.toNat + 256 * high.toNat, kind := kind, tag := tag }

theorem headerOf_bytes (low high kind tag : Byte) : headerOf [low, high, kind, tag] = headerFrom low high kind tag := by
  simp [headerOf, headerFrom, field, slice, leNat]

theorem Link.takeByte_header_last {low high kind : Byte} (h : l.rx = .header [low, high, kind]) :
    l.takeByte byte false = l.takeHeader (headerFrom low high kind byte) := by
  simp [Link.takeByte, h, headerOf_bytes]

theorem Link.takeHeader_long {header : FrameHeader} (h : 1024 < header.length) : l.takeHeader header = l.discardFrame := if_pos h

theorem Link.takeHeader_empty {header : FrameHeader} (h : header.length = 0) :
    l.takeHeader header = { l with rx := .check header [] none } := by
  simp [Link.takeHeader, h]

theorem Link.takeHeader_body {header : FrameHeader} (h : 1 ≤ header.length) (hmax : header.length ≤ 1024) :
    l.takeHeader header = { l with rx := .body header [] } := by
  have hfits : ¬ Config.bodyMax < header.length := Nat.not_lt.2 hmax
  simp [Link.takeHeader, hfits, Nat.ne_of_gt h]

theorem Link.takeByte_body {header : FrameHeader} {got : List Byte} (h : l.rx = .body header got) (hgot : got.length + 1 < header.length) :
    l.takeByte byte false = { l with rx := .body header (got ++ [byte]) } := by
  simp [Link.takeByte, h, hgot]

theorem Link.takeByte_body_last {header : FrameHeader} {got : List Byte} (h : l.rx = .body header got)
    (hgot : header.length ≤ got.length + 1) : l.takeByte byte false = { l with rx := .check header (got ++ [byte]) none } := by
  simp [Link.takeByte, h, Nat.not_lt.2 hgot]

theorem Link.takeByte_check {header : FrameHeader} {body : List Byte} (h : l.rx = .check header body none) :
    l.takeByte byte false = { l with rx := .check header body (some byte) } := by
  simp [Link.takeByte, h]

theorem Link.takeByte_check_last {header : FrameHeader} {body : List Byte} {low : Byte} (h : l.rx = .check header body (some low)) :
    l.takeByte byte false = l.judgeFrame header body [low, byte] := by
  simp [Link.takeByte, h]

theorem leNat_pair (low high : Byte) : leNat [low, high] = low.toNat + 256 * high.toNat := by
  simp [leNat]

/-! ## A whole frame is judged (R180, R181) -/

/-- The CRC of a whole frame is right and its kind is a request kind. -/
def FrameHeader.Good (h : FrameHeader) (body : List Byte) (low high : Byte) : Prop :=
  low.toNat + 256 * high.toNat = (crc16 (leBytes 2 h.length ++ [h.kind, h.tag] ++ body)).toNat ∧ h.kind.toNat < 0x80

variable {header : FrameHeader} {body : List Byte} {low high : Byte}

theorem Link.judgeFrame_good (h : header.Good body low high) :
    l.judgeFrame header body [low, high] = Link.goodRequest { l with rx := .hunt } header.kind header.tag body := by
  rw [Link.judgeFrame, leNat_pair]
  exact if_pos h

theorem Link.judgeFrame_bad (h : ¬ header.Good body low high) : l.judgeFrame header body [low, high] = l.discardFrame := by
  rw [Link.judgeFrame, leNat_pair]
  exact if_neg h

variable {kind tag : Byte}

theorem Link.goodRequest_room (h : l.requests.length < 4) : l.goodRequest kind tag body =
    { l with requests := l.requests ++ [{ kind := kind, tag := tag, body := body, served := false }] } := if_pos h

theorem Link.goodRequest_overrun (h : 4 ≤ l.requests.length) (hslot : l.overrunSlot = none) : l.goodRequest kind tag body =
    { l with overrunSlot := some (overrunReply kind tag), outgoing := l.outgoing ++ [.reply (overrunReply kind tag)] } := by
  have hfull : ¬ l.requests.length < Config.requestCapacity := Nat.not_lt.2 h
  simp [Link.goodRequest, hfull, hslot]

theorem Link.goodRequest_counted (h : 4 ≤ l.requests.length) (hslot : l.overrunSlot ≠ none) : l.goodRequest kind tag body =
    { l with overruns := min 65535 (l.overruns + 1) } := by
  have hfull : ¬ l.requests.length < Config.requestCapacity := Nat.not_lt.2 h
  have hheld : l.overrunSlot.isNone = false := by simpa using Option.ne_none_iff_isSome.1 hslot
  rw [Link.goodRequest, if_neg hfull, if_neg (by simp [hheld])]
  rfl

end

/-! ## The commands of the receiver -/

theorem exec_inboundByte_eq {s : State} {byte : Byte} {fault : Bool} {l : Link} (h : s.link.takeByte byte fault = l) :
    exec (.inboundByte byte fault) s = .next { s with link := { l with lastByte := s.tb.t } } := by
  subst h
  rfl

theorem State.frameGapDue_iff (s : State) :
    s.frameGapDue = true ↔ s.link.rx ≠ .hunt ∧ 50 < ticksSince s.tb.t s.link.lastByte := by
  simp only [State.frameGapDue, Bool.and_eq_true, decide_eq_true_eq]
  rfl

theorem exec_frameGapExpiry_due {s : State} (h : s.frameGapDue = true) :
    exec .frameGapExpiry s = .next { s with link := s.link.discardFrame } := congrArg Host.Outcome.next (if_pos h)

theorem exec_frameGapExpiry_idle {s : State} (h : ¬ s.frameGapDue = true) : exec .frameGapExpiry s = .next s :=
  congrArg Host.Outcome.next (if_neg h)

/-- Settles O49, by the receiver's state and the byte. -/
theorem bytesAreFramed : Obligations.BytesAreFramed := by
  intro s byte fault
  refine ⟨fun hunt => ⟨fun hsync => ?_, ?_, ?_⟩, ?_, ?_, fun hrx hgap => ?_, fun hno => ?_⟩
  · exact exec_inboundByte_eq (Link.takeByte_noise hunt hsync)
  · rintro rfl rfl
    exact exec_inboundByte_eq (Link.takeByte_sync hunt)
  · rintro rfl rfl
    exact exec_inboundByte_eq (Link.takeByte_sync_fault hunt)
  · rintro hrx rfl
    exact exec_inboundByte_eq (Link.takeByte_fault hrx)
  · rintro rfl
    refine ⟨fun got hrx hgot => ?_, fun low high kind hrx => ?_, fun h got hrx => ⟨fun hgot => ?_, fun hgot => ?_⟩, fun h body hrx => ?_,
      fun h body low hrx => ?_⟩
    · exact exec_inboundByte_eq (Link.takeByte_header hrx hgot)
    · have htake := Link.takeByte_header_last (byte := byte) hrx
      refine ⟨fun hlong => ?_, fun hempty => ?_, fun hsome hmax => ?_⟩
      · exact exec_inboundByte_eq (htake.trans (Link.takeHeader_long hlong))
      · exact exec_inboundByte_eq (htake.trans (Link.takeHeader_empty hempty))
      · exact exec_inboundByte_eq (htake.trans (Link.takeHeader_body hsome hmax))
    · exact exec_inboundByte_eq (Link.takeByte_body hrx hgot)
    · exact exec_inboundByte_eq (Link.takeByte_body_last hrx hgot)
    · exact exec_inboundByte_eq (Link.takeByte_check hrx)
    · have htake := Link.takeByte_check_last (byte := byte) hrx
      refine ⟨fun hbad => ?_, fun hgood hroom => ?_, fun hgood hfull hslot => ?_, fun hgood hfull hslot => ?_⟩
      · exact exec_inboundByte_eq (htake.trans (Link.judgeFrame_bad hbad))
      · exact exec_inboundByte_eq (htake.trans ((Link.judgeFrame_good hgood).trans (Link.goodRequest_room hroom)))
      · exact exec_inboundByte_eq (htake.trans ((Link.judgeFrame_good hgood).trans (Link.goodRequest_overrun hfull hslot)))
      · exact exec_inboundByte_eq (htake.trans ((Link.judgeFrame_good hgood).trans (Link.goodRequest_counted hfull hslot)))
  · exact exec_frameGapExpiry_due (s.frameGapDue_iff.2 ⟨hrx, hgap⟩)
  · refine exec_frameGapExpiry_idle fun hdue => ?_
    obtain ⟨hrx, hgap⟩ := s.frameGapDue_iff.1 hdue
    rcases hno with hunt | hsoon
    · exact hrx hunt
    · omega

/-! ## What the link refuses (R181, R185) -/

theorem exec_unknownRequest_refused {s : State} {kind tag : Byte} {body : List Byte} (h : unknownKind kind = true) :
    exec (.unknownRequest kind tag body) s = .next (s.answer kind tag body [codeBadKind]) := congrArg Host.Outcome.next (if_pos h)

theorem unknownKind_iff (kind : Byte) : unknownKind kind = true ↔ kind.toNat < 0x80 ∧ kind ∉ requestKinds := by
  simp [unknownKind]

/-- A request of fixed length with a body of another length is answered BAD_LENGTH, whatever it would have done. -/
theorem exec_badLength {c : Instr} {kind tag : Byte} {body : List Byte} {n : Nat} (s : State)
    (hrequest : encodeRequest c = some (kind, tag, body)) (hrequired : requiredLength c = some n) (hlength : body.length ≠ n) :
    exec c s = .next (s.answer kind tag body [codeBadLength]) := by
  cases c <;> cases hrequired <;> cases hrequest
  case liveRead | tableRead | driftGet | recordFetch | tallyFetch | captureFetch =>
    exact congrArg (fun reply => Host.Outcome.next (s.answer _ tag body reply)) (if_pos hlength)
  all_goals exact congrArg Host.Outcome.next (if_pos hlength)

theorem stagePutLength_short {body : List Byte} (h : body.length < 2) : stagePutLength body = false := by
  match body, h with
  | [], _ => rfl
  | [_], _ => rfl

theorem stagePutLength_differs {kind index : Byte} {fields : List Byte} {id : ItemId} (hid : itemIdOf kind.toNat index.toNat = some id)
    (h : fieldsLength id fields ≠ some fields.length) : stagePutLength (kind :: index :: fields) = false := by
  simp [stagePutLength, hid, h]

/-- Settles O51, by the test of the length that each request's command begins with. -/
theorem linkRefusesFrames : Obligations.LinkRefusesFrames := by
  intro s
  refine ⟨fun kind tag body hkind hnone => ?_, fun c kind tag body n hrequest hrequired hlength => ?_, fun tag body hshort => ?_,
    fun tag kind index fields id hid hlength => ?_⟩
  · exact ⟨_, exec_unknownRequest_refused ((unknownKind_iff kind).2 ⟨hkind, hnone⟩), s.answer_only _ _ _ _⟩
  · exact ⟨_, exec_badLength s hrequest hrequired hlength, s.answer_only _ _ _ _⟩
  · exact ⟨_, exec_stagePut_length _ (stagePutLength_short hshort), s.answer_only _ _ _ _⟩
  · exact ⟨_, exec_stagePut_length _ (stagePutLength_differs hid hlength), s.answer_only _ _ _ _⟩

/-! ## A request's frame, byte by byte (R179, R180) -/

/-- The link has taken a byte on this tick and the receiver stands as given. -/
def State.receiving (s : State) (rx : Receiver) : State := { s with link := { s.link with rx := rx, lastByte := s.tb.t } }

theorem State.run_next {s t : State} {c : Instr} (h : exec c s = .next t) (cs : List Instr) : s.run (c :: cs) = t.run cs := by
  rw [State.run, h]

section
variable (s : State) {header : FrameHeader}

theorem receiving_takes {rx rx' : Receiver} {byte : Byte}
    (h : (s.receiving rx).link.takeByte byte false = { (s.receiving rx).link with rx := rx' }) :
    exec (.inboundByte byte false) (s.receiving rx) = .next (s.receiving rx') := exec_inboundByte_eq h

/-- The body's bytes, taken one by one, fill it. -/
theorem run_body (rest got : List Byte) (cs : List Instr) (hrest : rest ≠ []) (hlength : got.length + rest.length = header.length) :
    (s.receiving (.body header got)).run (rest.map (fun b => .inboundByte b false) ++ cs) =
      (s.receiving (.check header (got ++ rest) none)).run cs := by
  induction rest generalizing got with
  | nil => exact absurd rfl hrest
  | cons b rest ih =>
    cases rest with
    | nil =>
      have hlast : header.length ≤ got.length + 1 := Nat.le_of_eq hlength.symm
      exact State.run_next (receiving_takes s (Link.takeByte_body_last rfl hlast)) cs
    | cons b' rest =>
      have hmore : got.length + 1 < header.length := by simp only [List.length_cons] at hlength; omega
      have hnext := receiving_takes s (byte := b) (Link.takeByte_body (got := got) rfl hmore)
      rw [List.map_cons, List.cons_append, State.run_next hnext, ih (got ++ [b]) (by simp) (by simp at hlength ⊢; omega)]
      simp

/-- After the header, the body's bytes bring the receiver to the CRC, an empty body at once. -/
theorem run_afterHeader {low high kind tag : Byte} (body : List Byte) (cs : List Instr) (hmax : body.length ≤ 1024)
    (hlength : low.toNat + 256 * high.toNat = body.length) :
    (s.receiving (.header [low, high, kind])).run (.inboundByte tag false :: (body.map (fun b => .inboundByte b false) ++ cs)) =
      (s.receiving (.check (headerFrom low high kind tag) body none)).run cs := by
  have htake : (s.receiving (.header [low, high, kind])).link.takeByte tag false = _ := Link.takeByte_header_last rfl
  cases body with
  | nil => exact State.run_next (receiving_takes s (htake.trans (Link.takeHeader_empty hlength))) cs
  | cons b rest =>
    have hsome : 1 ≤ (headerFrom low high kind tag).length := by simp [headerFrom, hlength]
    have hfits : (headerFrom low high kind tag).length ≤ 1024 := hlength.trans_le hmax
    rw [State.run_next (receiving_takes s (htake.trans (Link.takeHeader_body hsome hfits)))]
    exact run_body s (b :: rest) [] cs (by simp) (by simp [headerFrom, hlength])

end

/-- A well-formed request's kind, tag and body fit a frame and spell the command again. -/
theorem encodeRequest_spells {c : Instr} {kind tag : Byte} {body : List Byte} (hwell : c.wellFormed = true)
    (h : encodeRequest c = some (kind, tag, body)) :
    body.length ≤ 1024 ∧ kind.toNat < 0x80 ∧ decodeRequest kind tag body = c := by
  cases c <;> cases h
  case unknownRequest =>
    simp only [Instr.wellFormed, bodyFits, Bool.and_eq_true, decide_eq_true_eq] at hwell
    obtain ⟨⟨hbody, hkind⟩, hdecode⟩ := hwell
    exact ⟨hbody, hkind, hdecode⟩
  all_goals exact ⟨of_decide_eq_true hwell, by decide, rfl⟩

theorem frameBytes_eq (kind tag : Byte) (body : List Byte) : ∃ low high low' high' : Byte,
    frameBytes kind tag body = 0x5C :: low :: high :: kind :: tag :: (body ++ [low', high']) ∧
    low.toNat + 256 * high.toNat = body.length % 65536 ∧
    low'.toNat + 256 * high'.toNat = (crc16 (coveredBytes kind tag body)).toNat := by
  have hpair : ∀ n, ∃ low high : Byte, leBytes 2 n = [low, high] ∧ low.toNat + 256 * high.toNat = n % 65536 := fun n =>
    ⟨_, _, rfl, by rw [← leNat_pair]; exact leNat_leBytes 2 n⟩
  obtain ⟨low, high, hlength, hvalue⟩ := hpair body.length
  obtain ⟨low', high', hcrc, hcrcValue⟩ := hpair (crc16 (coveredBytes kind tag body)).toNat
  refine ⟨low, high, low', high', ?_, hvalue, hcrcValue.trans (Nat.mod_eq_of_lt (BitVec.isLt _))⟩
  rw [frameBytes, hcrc, coveredBytes, hlength]
  simp

/-- Settles O53, by the receiver's states along the frame, with an induction over the body. -/
theorem requestFramesRoundTrip : Obligations.RequestFramesRoundTrip := by
  intro c kind tag body s hwell hrequest hunt hroom
  obtain ⟨hmax, hkind, hdecode⟩ := encodeRequest_spells hwell hrequest
  refine ⟨?_, hdecode⟩
  obtain ⟨low, high, low', high', hbytes, hvalue, hcrc⟩ := frameBytes_eq kind tag body
  rw [Nat.mod_eq_of_lt (by omega)] at hvalue
  have hgood : (headerFrom low high kind tag).Good body low' high' :=
    ⟨hcrc.trans (by simp only [headerFrom, hvalue]; rfl), hkind⟩
  have hsync : exec (.inboundByte 0x5C false) s = .next (s.receiving (.header [])) := exec_inboundByte_eq (Link.takeByte_sync hunt)
  have hheader : ∀ (got : List Byte) (b : Byte), got.length < 3 →
      exec (.inboundByte b false) (s.receiving (.header got)) = .next (s.receiving (.header (got ++ [b]))) := fun got b hgot =>
    receiving_takes s (Link.takeByte_header rfl hgot)
  rw [hbytes]
  simp only [List.map_cons, List.map_append, List.map_nil]
  refine (State.run_next hsync _).trans ((State.run_next (hheader [] low (by simp)) _).trans ?_)
  refine (State.run_next (hheader [low] high (by simp)) _).trans ((State.run_next (hheader [low, high] kind (by simp)) _).trans ?_)
  refine (run_afterHeader s body _ hmax hvalue).trans ?_
  rw [State.run_next (receiving_takes s (Link.takeByte_check rfl))]
  have hlast := exec_inboundByte_eq (s := s.receiving (.check (headerFrom low high kind tag) body (some low')))
    ((Link.takeByte_check_last rfl).trans ((Link.judgeFrame_good hgood).trans (Link.goodRequest_room hroom)))
  rw [State.run_next hlast, State.run]
  exact congrArg some (by rw [← hunt]; rfl)

end Sys2Proof.Machine
end

section
/-! Fields laid one after another on the wire, and where a part of a body stands in the whole (R185). -/

namespace Sys2Proof.Machine

/-! ## Fields in order -/

/-- The bytes of fields in order, each given by its width and its value. -/
def render (fs : List (Nat × Nat)) : List Byte := fs.flatMap fun f => leBytes f.1 f.2

@[simp] theorem render_nil : render [] = [] := rfl

@[simp] theorem render_cons (f : Nat × Nat) (fs : List (Nat × Nat)) : render (f :: fs) = leBytes f.1 f.2 ++ render fs := rfl

@[simp] theorem render_append (fs gs : List (Nat × Nat)) : render (fs ++ gs) = render fs ++ render gs := List.flatMap_append

@[simp] theorem render_flatMap {α : Type} (l : List α) (f : α → List (Nat × Nat)) :
    render (l.flatMap f) = l.flatMap fun x => render (f x) := List.flatMap_assoc

theorem render_length (fs : List (Nat × Nat)) : (render fs).length = (fs.map Prod.fst).sum := by
  simp [render, List.length_flatMap]

/-- From place i on stand fields of given widths and values. -/
def FieldsFrom (bytes : List Byte) : Nat → List (Nat × Nat) → Prop
  | _, [] => True
  | i, (width, v) :: rest => field bytes i width = v % 256 ^ width ∧ FieldsFrom bytes (i + width) rest

theorem fieldsAt_iff (bytes : List Byte) (i : Nat) (fs : List (Nat × Nat)) :
    FieldsAt bytes i fs ↔ FieldsFrom bytes i fs ∧ bytes.length = i + (fs.map Prod.fst).sum := by
  induction fs generalizing i with
  | nil => simp [FieldsAt, FieldsFrom]
  | cons f fs ih => simp [FieldsAt, FieldsFrom, ih, and_assoc, Nat.add_assoc]

/-! ## A part and its place -/

/-- A part of a body stands at place i. -/
def StandsAt (bytes : List Byte) (i : Nat) (part : List Byte) : Prop :=
  ∃ before after, bytes = before ++ (part ++ after) ∧ before.length = i

section
variable {a b bytes part : List Byte} {i n : Nat}

theorem StandsAt.self (part : List Byte) : StandsAt part 0 part := ⟨[], [], by simp, rfl⟩

theorem StandsAt.first (a b : List Byte) : StandsAt (a ++ b) 0 a := ⟨[], b, rfl, rfl⟩

theorem StandsAt.within (h : StandsAt a i part) (b : List Byte) : StandsAt (a ++ b) i part := by
  obtain ⟨before, after, rfl, hi⟩ := h
  exact ⟨before, after ++ b, by simp, hi⟩

theorem StandsAt.behind (h : StandsAt b i part) (hlength : a.length = n) : StandsAt (a ++ b) (n + i) part := by
  obtain ⟨before, after, rfl, rfl⟩ := h
  exact ⟨a ++ before, after, by simp, by simp [hlength]⟩

theorem StandsAt.trans {inner : List Byte} {j : Nat} (h : StandsAt bytes i part) (hinner : StandsAt part j inner) :
    StandsAt bytes (i + j) inner := by
  obtain ⟨before, after, rfl, rfl⟩ := h
  exact (hinner.within after).behind rfl

theorem length_flatMap_const {α : Type} {f : α → List Byte} {n : Nat} (h : ∀ x, (f x).length = n) (l : List α) :
    (l.flatMap f).length = n * l.length := by
  simp [List.length_flatMap, h, Nat.mul_comm]

/-- The parts of a list of things, all of one length, stand one after another. -/
theorem StandsAt.ofList {α : Type} {f : α → List Byte} (h : ∀ x, (f x).length = n) (l : List α) (k : Nat) (hk : k < l.length) :
    StandsAt (l.flatMap f) (n * k) (f l[k]) := by
  refine ⟨(l.take k).flatMap f, (l.drop (k + 1)).flatMap f, ?_, ?_⟩
  · rw [← List.flatMap_cons, ← List.flatMap_append, List.getElem_cons_drop, List.take_append_drop]
  · rw [length_flatMap_const h, List.length_take_of_le hk.le]

/-- Parts laid one after another stand behind the lengths of those before them. -/
theorem StandsAt.ofParts {parts : List (List Byte)} {lengths : List Nat} (h : parts.map List.length = lengths) (k : Nat)
    (hk : k < parts.length) : StandsAt parts.flatten (lengths.take k).sum parts[k] := by
  refine ⟨(parts.take k).flatten, (parts.drop (k + 1)).flatten, ?_, ?_⟩
  · rw [← List.flatten_cons, ← List.flatten_append, List.getElem_cons_drop, List.take_append_drop]
  · rw [List.length_flatten, ← h, List.map_take]

theorem flatten_length {parts : List (List Byte)} {lengths : List Nat} (h : parts.map List.length = lengths) :
    parts.flatten.length = lengths.sum := by
  rw [List.length_flatten, h]

/-- The parts of the sixteen channels, all of one length, stand in the order of their numbers. -/
theorem StandsAt.ofChannels {f : ChannelId → List Byte} (h : ∀ ch, (f ch).length = n) (ch : ChannelId) :
    StandsAt (allChannels.flatMap f) (n * (4 * ch.lane.val + ch.strip.val)) (f ch) := by
  have hindex : ∀ ln p : Fin 4, ∃ hk : 4 * ln.val + p.val < allChannels.length, allChannels[4 * ln.val + p.val] = ⟨ln, p⟩ := by decide
  obtain ⟨hk, hch⟩ := hindex ch.lane ch.strip
  have hplace := StandsAt.ofList h allChannels (4 * ch.lane.val + ch.strip.val) hk
  rwa [hch] at hplace

theorem StandsAt.ofFours {f : LaneId → List Byte} (h : ∀ ln, (f ln).length = n) (ln : LaneId) :
    StandsAt (fours.flatMap f) (n * ln.val) (f ln) := by
  have hindex : ∀ ln : Fin 4, ∃ hk : ln.val < fours.length, fours[ln.val] = ln := by decide
  obtain ⟨hk, hln⟩ := hindex ln
  have hplace := StandsAt.ofList h fours ln.val hk
  rwa [hln] at hplace

/-- The parts of the four members stand in their order. -/
theorem StandsAt.ofFour {α : Type} {f : α → List Byte} {x : Four α} (h : ∀ i, (f (x.get i)).length = n) (i : Fin 4) :
    StandsAt (x.toList.flatMap f) (n * i.val) (f (x.get i)) := by
  have hparts : x.toList.flatMap f = fours.flatMap fun i => f (x.get i) := rfl
  rw [hparts]
  exact StandsAt.ofFours h i

theorem four_length {α : Type} {f : α → List Byte} {x : Four α} (h : ∀ i, (f (x.get i)).length = n) :
    (x.toList.flatMap f).length = 4 * n := by
  have hparts : x.toList.flatMap f = fours.flatMap fun i => f (x.get i) := rfl
  rw [hparts, length_flatMap_const h, Nat.mul_comm]
  rfl

theorem StandsAt.field (h : StandsAt bytes i part) {j width : Nat} (hfits : j + width ≤ part.length) :
    Machine.field bytes (i + j) width = Machine.field part j width := by
  obtain ⟨before, after, rfl, rfl⟩ := h
  rw [field_append_right _ _ _ _ (Nat.le_add_right _ _), Nat.add_sub_cancel_left, field_append_left _ _ _ _ hfits]

theorem StandsAt.fields {fs : List (Nat × Nat)} (h : StandsAt bytes i (render fs)) : FieldsFrom bytes i fs := by
  induction fs generalizing i with
  | nil => trivial
  | cons f fs ih =>
    obtain ⟨width, v⟩ := f
    refine ⟨?_, ih (h.trans ((StandsAt.self _).behind (leBytes_length width v)))⟩
    have hfits : 0 + width ≤ (render ((width, v) :: fs)).length := by simp
    exact (h.field hfits).trans (field_leBytes width v (render fs))

end

theorem render_fieldsAt (fs : List (Nat × Nat)) : FieldsAt (render fs) 0 fs :=
  (fieldsAt_iff _ _ _).2 ⟨(StandsAt.self _).fields, by rw [render_length, Nat.zero_add]⟩

/-! ## The optional and the coded fields (R185) -/

theorem leSigned_eq (n : Nat) (v : Int) : leSigned n v = leBytes n (twos n v) := rfl

theorem twos_lt (n : Nat) (v : Int) : twos n v < 256 ^ n := by
  have hpos : (0 : Int) < ((256 ^ n : Nat) : Int) := by exact_mod_cast Nat.pow_pos (by norm_num)
  have hlt := Int.emod_lt_of_pos v hpos
  have hnonneg := Int.emod_nonneg v hpos.ne'
  unfold twos
  omega

theorem twos_mod (n : Nat) (v : Int) : twos n v % 256 ^ n = twos n v := Nat.mod_eq_of_lt (twos_lt n v)

theorem flagByte_eq (b : Bool) : flagByte b = leBytes 1 b.toNat := by cases b <;> rfl

theorem flag2_eq (b : Bool) : flag2 b = leBytes 2 b.toNat := by cases b <;> rfl

theorem optFlag_eq (v : Option Bool) : optFlag v = leBytes 1 (yesNo v) := by
  cases v with
  | none => rfl
  | some b => exact flagByte_eq b

theorem optTemp_eq (v : Option Int) : optTemp v = leBytes 2 (twos 2 (v.getD (-32768))) := rfl

theorem optWord_eq (v : Option Nat) : optWord v = leBytes 1 v.isSome.toNat ++ leBytes 4 (v.getD 0) := by
  cases v <;> rfl

theorem optTick_eq (v : Option Tick) : optTick v = leBytes 1 v.isSome.toNat ++ leBytes 4 ((v.map BitVec.toNat).getD 0) := by
  rw [optTick, optWord_eq, Option.isSome_map]

theorem yesNo_lt (v : Option Bool) : yesNo v < 256 := by
  rcases v with - | (- | -) <;> decide

theorem toNat_mod_word (v : BitVec 32) : v.toNat % 256 ^ 4 = v.toNat := Nat.mod_eq_of_lt (b := 256 ^ 4) v.isLt

theorem Bool.toNat_mod_byte (b : Bool) : b.toNat % 256 = b.toNat := by cases b <;> rfl

end Sys2Proof.Machine
end

section
/-! Raising notices, serving requests, and the end of a transmission (R181, R182). -/

namespace Sys2Proof.Machine

/-! ## Raising and merging (R182) -/

theorem raiseIn_joins {n : Notice} {fs : List OutFrame} (h : ∀ m, .notice m ∈ fs → m.kind ≠ n.kind) :
    raiseIn fs n = fs ++ [.notice n] := by
  induction fs with
  | nil => rfl
  | cons f fs ih =>
    have ih := ih fun m hm => h m (List.mem_cons_of_mem _ hm)
    cases f with
    | reply r => rw [raiseIn, ih]; rfl
    | notice m =>
      have hne : ¬ m.sameKind n = true := fun hsame => h m List.mem_cons_self ((Notice.sameKind_iff m n).1 hsame)
      rw [raiseIn, if_neg hne, ih]
      rfl

theorem raiseIn_merges {n m : Notice} {before : List OutFrame} (after : List OutFrame)
    (h : ∀ k, .notice k ∈ before → k.kind ≠ n.kind) (hm : m.kind = n.kind) :
    raiseIn (before ++ .notice m :: after) n = before ++ .notice (m.merge n) :: after := by
  induction before with
  | nil => exact if_pos ((Notice.sameKind_iff m n).2 hm)
  | cons f before ih =>
    have ih := ih fun k hk => h k (List.mem_cons_of_mem _ hk)
    cases f with
    | reply r => rw [List.cons_append, raiseIn, ih]; rfl
    | notice k =>
      have hne : ¬ k.sameKind n = true := fun hsame => h k List.mem_cons_self ((Notice.sameKind_iff k n).1 hsame)
      rw [List.cons_append, raiseIn, if_neg hne, ih]
      rfl

theorem orLanes_get (x y : Four (BitVec 8)) (ln : LaneId) : (orLanes x y).get ln = x.get ln ||| y.get ln := by
  fin_cases ln <;> rfl

/-- A notice that carries values and no set takes those of the later raise. -/
theorem Notice.merge_later {m : Notice} (n : Notice) (h : m.kind = 0xE1 ∨ m.kind = 0xE2 ∨ m.kind = 0xE5) :
    m.merge n = n := by
  cases m with
  | started => simp [Notice.kind] at h
  | serviceChange => simp [Notice.kind] at h
  | driftUpdated => simp [Notice.kind] at h
  | recordsReady => rfl
  | tallyClosed => rfl
  | captureHeld => rfl

/-! ## The bodies of the notices (R182) -/

theorem FieldsAt.of_render {bytes : List Byte} {fs : List (Nat × Nat)} (h : bytes = render fs) : FieldsAt bytes 0 fs :=
  h ▸ render_fieldsAt fs

theorem bitAt_eq (b : Bool) (weight : Nat) : bitAt b weight = weight * b.toNat := by cases b <;> simp [bitAt]

theorem Notice.contents_layout (n : Notice) : NoticeLayout n.contents n := by
  cases n with
  | started p r =>
    obtain ⟨hcause, hlength⟩ := FieldsAt.of_render (bytes := Notice.contents (.started p r)) (fs := [(1, bitAt p 1 + bitAt r 2)]) rfl
    refine ⟨hlength, hcause.trans ?_⟩
    cases p <;> cases r <;> rfl
  | recordsReady held oldest =>
    obtain ⟨hheld, holdest, hlength⟩ := FieldsAt.of_render (bytes := Notice.contents (.recordsReady held oldest))
      (fs := [(2, held), (6, oldest.getD 0)]) rfl
    exact ⟨hlength, hheld, holdest⟩
  | tallyClosed n =>
    obtain ⟨hcount, hlength⟩ := FieldsAt.of_render (bytes := Notice.contents (.tallyClosed n)) (fs := [(1, n)]) rfl
    exact ⟨hlength, hcount⟩
  | serviceChange c =>
    obtain ⟨hchannels, hprobes, hlanes, htimebase, hlength⟩ := FieldsAt.of_render (bytes := Notice.contents (.serviceChange c))
      (fs := [(2, c.channels.toNat), (1, c.probes.toNat), (1, c.lanes.toNat), (1, bitAt c.timebase 1)]) rfl
    refine ⟨hlength, hchannels.trans (Nat.mod_eq_of_lt (BitVec.isLt _)), hprobes.trans (Nat.mod_eq_of_lt (BitVec.isLt _)),
      hlanes.trans (Nat.mod_eq_of_lt (BitVec.isLt _)), htimebase.trans ?_⟩
    cases c.timebase <;> rfl
  | driftUpdated lanes =>
    obtain ⟨ha, hb, hc, hd, hlength⟩ := FieldsAt.of_render (bytes := Notice.contents (.driftUpdated lanes))
      (fs := [(1, lanes.a.toNat), (1, lanes.b.toNat), (1, lanes.c.toNat), (1, lanes.d.toNat)]) rfl
    have hbyte : ∀ b : BitVec 8, b.toNat % 256 ^ 1 = b.toNat := fun b => Nat.mod_eq_of_lt b.isLt
    refine ⟨hlength, fun ln => ?_⟩
    fin_cases ln
    · exact ha.trans (hbyte _)
    · exact hb.trans (hbyte _)
    · exact hc.trans (hbyte _)
    · exact hd.trans (hbyte _)
  | captureHeld serial =>
    obtain ⟨hserial, hlength⟩ := FieldsAt.of_render (bytes := Notice.contents (.captureHeld serial)) (fs := [(6, serial.getD 0)]) rfl
    exact ⟨hlength, hserial⟩

/-! ## Serving (R181) -/

/-- Two links with the same requests, whose outgoing frames differ by notices alone. -/
structure Link.Alike (l l' : Link) : Prop where
  requests : l'.requests = l.requests
  places : l'.outgoing.countP OutFrame.holdsPlace = l.outgoing.countP OutFrame.holdsPlace
  overruns : l'.outgoing.filterMap OutFrame.overrunOf = l.outgoing.filterMap OutFrame.overrunOf

theorem Link.Alike.refl (l : Link) : l.Alike l := ⟨rfl, rfl, rfl⟩

theorem Link.Alike.raised {l l' : Link} (h : l.Alike l') (n : Notice) : l.Alike (l'.raised n) :=
  ⟨h.requests, (raiseIn_holdsPlace _ _).trans h.places, (raiseIn_overruns _ _).trans h.overruns⟩

section
variable {l : Link} {s : State}

theorem State.putUnit_alike (h : l.Alike s.link) (ch : ChannelId) (u : ChannelUnit) : l.Alike (s.putUnit ch u).link := by
  rw [State.putUnit_link]
  split
  · exact h
  · split
    · exact h.raised _
    · exact (h.raised _).raised _

theorem State.putProbe_alike (h : l.Alike s.link) (p : ProbeId) (x : Probe) : l.Alike (s.putProbe p x).link := by
  unfold State.putProbe
  dsimp only
  split
  · exact h
  · exact h.raised _

theorem State.adopt_alike (h : l.Alike s.link) (ln : LaneId) : l.Alike (s.adopt ln).link := by
  cases hactive : s.tables.active with
  | none => rwa [State.adopt_none hactive]
  | some g =>
    rw [State.adopt_link hactive]
    split
    · exact h
    · exact h.raised _

theorem State.adopts_alike (lanes : List LaneId) (h : l.Alike s.link) : l.Alike (lanes.foldl State.adopt s).link := by
  induction lanes generalizing s with
  | nil => exact h
  | cons ln rest ih => exact ih (State.adopt_alike h ln)

theorem State.settle_alike (h : l.Alike s.link) : l.Alike s.settle.link := by
  unfold State.settle
  generalize fours = lanes
  induction lanes generalizing s with
  | nil => exact h
  | cons ln rest ih =>
    refine ih ?_
    unfold State.adoptIfQuiet
    split
    · exact State.adopt_alike h ln
    · exact h

theorem State.restartUnits_alike (h : l.Alike s.link) : l.Alike s.restartUnits.link := by
  unfold State.restartUnits
  generalize allChannels = channels
  induction channels generalizing s with
  | nil => exact h
  | cons ch rest ih => exact ih (State.putUnit_alike h _ _)

theorem State.restartBlocks_alike (h : l.Alike s.link) : l.Alike s.restartBlocks.link := by
  rw [State.restartBlocks_eq, State.reopenTallies_link, State.freeRetiring_link]
  refine State.adopts_alike fours ?_
  rw [State.emptied_link]
  exact State.restartUnits_alike h

theorem State.commit_alike (h : l.Alike s.link) (x : TableSet) (reset : Bool) : l.Alike (s.commit x reset).link := by
  rw [State.commit, State.freeRetiring_link]
  exact State.settle_alike (s := s.promote x reset) h

end

/-- From s to t a request has been served: the oldest unserved one is marked when it is that request, and one reply more holds a place
in the queue exactly then. -/
structure RequestServed (s t : State) (kind tag : Byte) (body : List Byte) : Prop where
  served : Served s.link.requests t.link.requests kind tag body
  places : t.link.outgoing.countP OutFrame.holdsPlace =
    s.link.outgoing.countP OutFrame.holdsPlace + (if t.link.requests = s.link.requests then 0 else 1)
  overruns : t.link.outgoing.filterMap OutFrame.overrunOf = s.link.outgoing.filterMap OutFrame.overrunOf

section
variable {s t u : State} {kind tag : Byte} {body : List Byte}

theorem State.answer_served (h : s.link.Alike u.link) (kind tag : Byte) (body reply : List Byte) :
    RequestServed s (u.answer kind tag body reply) kind tag body := by
  obtain ⟨hrequests, hplaces, hoverruns⟩ := h
  obtain ⟨hlink, -⟩ := u.answer_replied kind tag body reply
  have hserved := serveFirst_served kind tag body u.link.requests
  have hnew : (u.answer kind tag body reply).link.requests = (serveFirst kind tag body u.link.requests).1 := rfl
  refine ⟨?_, ?_, ?_⟩
  · rw [hnew, ← hrequests]
    exact hserved
  · rw [hlink, ← hplaces, ← hrequests]
    simp only [List.countP_append, List.countP_singleton, OutFrame.holdsPlace]
    split <;> simp
  · rw [hlink, ← hoverruns]
    simp only [List.filterMap_append]
    split <;> simp [OutFrame.overrunOf]

theorem RequestServed.raise (h : RequestServed s t kind tag body) (n : Notice) : RequestServed s (t.raise n) kind tag body :=
  ⟨h.served, (raiseIn_holdsPlace _ _).trans h.places, (raiseIn_overruns _ _).trans h.overruns⟩

end

theorem decodeRequest_known (tag : Byte) (body : List Byte) :
    ∀ kind ∈ requestKinds, decodeRequest kind tag body ≠ .unknownRequest kind tag body := by
  simp [requestKinds, decodeRequest]

theorem unknownKind_of_wellFormed {kind tag : Byte} {body : List Byte} (h : (Instr.unknownRequest kind tag body).wellFormed = true) :
    unknownKind kind = true := by
  obtain ⟨-, hkind, hdecode⟩ := encodeRequest_spells h rfl
  exact (unknownKind_iff kind).2 ⟨hkind, fun hin => decodeRequest_known tag body kind hin hdecode⟩

/-- Every command that serves a request answers it once, from a link that has only raised notices before. -/
theorem exec_requestServed {c : Instr} {kind tag : Byte} {body : List Byte} {s t : State} (hwell : c.wellFormed = true)
    (hrequest : encodeRequest c = some (kind, tag, body)) (he : exec c s = .next t) : RequestServed s t kind tag body := by
  have hsame : s.link.Alike s.link := .refl _
  cases c <;> cases hrequest
  case unknownRequest =>
    rw [exec_unknownRequest_refused (unknownKind_of_wellFormed hwell)] at he
    obtain rfl := Host.Outcome.next.inj he
    exact State.answer_served hsame _ _ _ _
  case restart =>
    rcases execRestart_cases he with ⟨-, rfl⟩ | ⟨-, rfl⟩
    · exact State.answer_served hsame _ _ _ _
    · exact (State.answer_served (State.restartBlocks_alike hsame) _ _ _ _).raise _
  case stageCommit =>
    rcases execStageCommit_cases he with ⟨reply, rfl⟩ | ⟨x, reset, reply, -, -, -, -, rfl⟩
    · exact State.answer_served hsame _ _ _ _
    · exact State.answer_served (State.commit_alike hsame _ _) _ _ _ _
  case channelRestore =>
    obtain rfl := Host.Outcome.next.inj he
    split
    · exact State.answer_served hsame _ _ _ _
    · split
      · exact State.answer_served hsame _ _ _ _
      · refine State.answer_served ?_ _ _ _ _
        split
        · exact State.putUnit_alike hsame _ _
        · exact hsame
  case probeRestore =>
    obtain rfl := Host.Outcome.next.inj he
    split
    · exact State.answer_served hsame _ _ _ _
    · split
      · exact State.answer_served hsame _ _ _ _
      · refine State.answer_served ?_ _ _ _ _
        split
        · rw [State.reselect_link]
          exact State.putProbe_alike hsame _ _
        · exact hsame
  case liveRead | tableRead | driftGet | recordFetch | tallyFetch | captureFetch =>
    obtain rfl := Host.Outcome.next.inj he
    exact State.answer_served hsame _ _ _ _
  case driftSet | recordRelease | captureArm =>
    obtain rfl := Host.Outcome.next.inj he
    dsimp only
    repeat' split
    all_goals exact State.answer_served (by exact ⟨rfl, rfl, rfl⟩) _ _ _ _
  all_goals
    obtain rfl := Host.Outcome.next.inj he
    repeat' split
    all_goals exact State.answer_served (by exact ⟨rfl, rfl, rfl⟩) _ _ _ _

/-! ## The end of a transmission (R181, R182) -/

theorem dropServed_first {before after : List Request} {q : Request} (hbefore : ∀ p ∈ before, p.served = false)
    (hq : q.served = true) : dropServed (before ++ q :: after) = before ++ after := by
  induction before with
  | nil => exact if_pos hq
  | cons p before ih =>
    have hp : ¬ p.served = true := by simp [hbefore p List.mem_cons_self]
    rw [List.cons_append, dropServed, if_neg hp, ih fun x hx => hbefore x (List.mem_cons_of_mem _ hx)]
    rfl

section
variable {s : State}

/-- The state with given requests left, the first of some frames in transmission and the others waiting. -/
def State.begun (s : State) (requests : List Request) (fs : List OutFrame) : State :=
  { s with link := { s.link with
      requests := requests, sending := fs.head?, outgoing := fs.tail
      overrunSlot := (fs.head?.map (slotBegun s.link.overrunSlot)).getD s.link.overrunSlot } }

theorem Link.beginNext_nil {l : Link} (h : l.outgoing = []) : l.beginNext = l := by
  simp only [Link.beginNext, h]

theorem Link.beginNext_cons {l : Link} {f : OutFrame} {fs : List OutFrame} (h : l.outgoing = f :: fs) :
    l.beginNext = { l with outgoing := fs, sending := some f, overrunSlot := slotBegun l.overrunSlot f } := by
  simp only [Link.beginNext, h, slotAfterBegin_eq]

theorem exec_transmitEnd_idle (hsending : s.link.sending = none) (hwaiting : s.link.outgoing = []) :
    exec .transmitEnd s = .next s := by
  show execTransmitEnd s = _
  simp [execTransmitEnd, Link.beginNext_nil hwaiting, hsending]

/-- The end of a frame's transmission leaves the state that has begun the first frame that waits. -/
theorem State.endFrame_begun (s : State) (f : OutFrame) :
    s.setLink (s.link.endFrame f) = s.begun (requestsAfterEnd s.link.requests f) s.link.outgoing := by
  unfold Link.endFrame State.begun
  cases hfs : s.link.outgoing with
  | nil =>
    rw [Link.beginNext_nil rfl]
    rfl
  | cons g rest =>
    rw [Link.beginNext_cons rfl]
    rfl

theorem exec_transmitEnd_sending {f : OutFrame} (h : s.link.sending = some f) :
    exec .transmitEnd s = .next (s.begun (requestsAfterEnd s.link.requests f) s.link.outgoing) := by
  show execTransmitEnd s = _
  have hnone : ¬ s.link.sending.isNone = true := by simp [h]
  rw [execTransmitEnd, if_neg hnone]
  simp only [h, s.endFrame_begun]

/-- With no frame begun but one waiting, it is that one whose transmission ends. -/
theorem exec_transmitEnd_waiting {f : OutFrame} {fs : List OutFrame} (hsending : s.link.sending = none) (hwaiting : s.link.outgoing = f :: fs) :
    exec .transmitEnd s = exec .transmitEnd { s with link := { s.link with
      sending := some f, outgoing := fs, overrunSlot := slotBegun s.link.overrunSlot f } } := by
  have hidle : s.link.sending.isNone = true := by simp [hsending]
  show execTransmitEnd s = _
  rw [execTransmitEnd, if_pos hidle, Link.beginNext_cons hwaiting]
  rfl

end

/-- Settles O50, by the place of a raise in the queue, one reply for each request, and the frame in transmission. -/
theorem outgoingFramesKeepOrder : Obligations.OutgoingFramesKeepOrder := by
  refine ⟨fun n fs h => raiseIn_joins h, fun n m before after h hm => raiseIn_merges after h hm, fun _ _ _ _ => rfl,
    fun _ _ => rfl, fun x y => ⟨orLanes x y, rfl, orLanes_get x y⟩, fun m n _ h => Notice.merge_later n h, fun s => ?_⟩
  refine ⟨fun c kind tag body t hwell hrequest he => ?_, fun n => ⟨n.contents_layout, rfl⟩, exec_transmitEnd_idle,
    fun f fs => exec_transmitEnd_waiting, fun n hsending => exec_transmitEnd_sending hsending,
    fun r hsending hsource => ?_, fun r before q after hsending hsource hrequests hq hbefore => ?_⟩
  · obtain ⟨hserved, hplaces, hoverruns⟩ := exec_requestServed hwell hrequest he
    exact ⟨hserved, hplaces, hoverruns⟩
  · have hkept : requestsAfterEnd s.link.requests (.reply r) = s.link.requests := if_neg hsource
    rw [exec_transmitEnd_sending hsending, hkept]
    rfl
  · have hleft : requestsAfterEnd s.link.requests (.reply r) = before ++ after := by
      rw [requestsAfterEnd, if_pos hsource, hrequests, dropServed_first hbefore hq]
    rw [exec_transmitEnd_sending hsending, hleft]
    rfl

end Sys2Proof.Machine
end

section
/-! The items of a site table set on the wire: the fields they are sent in, and what their checks make of the fields read back
(R146, R147, R155, R185). -/

namespace Sys2Proof.Machine

/-! ## An item is sent in its fields (R185) -/

theorem ItemId.codes_lt (id : ItemId) : id.codes.1 < 256 ∧ id.codes.2 < 256 := by
  cases id with
  | site | tempTab | drift => decide
  | lane n | speedTab n | probe n => exact ⟨by simp [ItemId.codes], by simp only [ItemId.codes]; omega⟩
  | channel ch => exact ⟨by simp [ItemId.codes], by simp only [ItemId.codes, channelNumber]; omega⟩
  | classRule i => exact ⟨by simp [ItemId.codes], by simp only [ItemId.codes]; omega⟩

theorem itemIdOf_codes (id : ItemId) : itemIdOf id.codes.1 id.codes.2 = some id := by
  have hfour : ∀ n : Fin 4, fourOfNumber (n.val + 1) = some n := by decide
  have hchannel : ∀ ln p : Fin 4, channelOfNumber (channelNumber ⟨ln, p⟩) = some ⟨ln, p⟩ := by decide
  cases id with
  | site | tempTab | drift => rfl
  | lane n | speedTab n | probe n => simp [ItemId.codes, itemIdOf, hfour]
  | channel ch => simp [ItemId.codes, itemIdOf, hchannel]
  | classRule i => simp [ItemId.codes, itemIdOf]

theorem ClassRule.presence_eq (r : ClassRule) : r.presence =
    1 + 2 * r.gvw.isSome.toNat + 4 * r.minFirstAxle.isSome.toNat + 8 * r.axleLimit.isSome.toNat + 16 * r.gvwLimit.isSome.toNat := by
  have hweight : ∀ (b : Bool) (n : Nat), (if b then n else 0) = n * b.toNat := fun b n => by cases b <;> simp
  simp only [ClassRule.presence, hweight]

/-- The fields of an item after its kind and index. -/
def fieldLayout (i : Item) : List (Nat × Nat) := (itemLayout i).drop 2

theorem Item.fields_eq (i : Item) : i.fields = render (fieldLayout i) := by
  cases i with
  | site | drift | channel =>
    simp [Item.fields, fieldLayout, itemLayout, flag2_eq]
  | lane => simp [Item.fields, fieldLayout, itemLayout, flag2_eq]
  | speedTab => simp [Item.fields, fieldLayout, itemLayout, codeByte]
  | tempTab => simp [Item.fields, fieldLayout, itemLayout, codeByte, render, List.flatMap_map]
  | probe p v =>
    obtain ⟨role, points⟩ := v
    cases role <;> simp [Item.fields, fieldLayout, itemLayout, codeByte, leSigned_eq, Role.code]
  | classRule i v =>
    cases v with
    | none => rfl
    | some r =>
      have hmin : ∀ b : Option Bounds, b.elim 0 Bounds.min = (b.map Bounds.min).getD 0 := fun b => by cases b <;> rfl
      have hmax : ∀ b : Option Bounds, b.elim 0 Bounds.max = (b.map Bounds.max).getD 0 := fun b => by cases b <;> rfl
      simp [Item.fields, classBytes, fieldLayout, itemLayout, codeByte, ClassRule.presence_eq, hmin, hmax]

theorem itemLayout_eq (i : Item) : itemLayout i = (1, i.id.codes.1) :: (1, i.id.codes.2) :: fieldLayout i := by
  cases i with
  | classRule i v => cases v <;> rfl
  | _ => rfl

theorem Item.bytes_eq (i : Item) : i.bytes = render (itemLayout i) := by
  rw [itemLayout_eq, Item.bytes, i.fields_eq]
  rfl

/-! ## Reading fields back -/

theorem flagOf_toNat (b : Bool) : flagOf (b.toNat % 256 ^ 2) = some b := by cases b <;> rfl

theorem roleOf_code (r : Role) : roleOf (r.code % 256 ^ 2) = some r := by cases r <;> rfl

/-- Entries of one width, laid one after another, are read one by one. -/
theorem entries_flatMap {α : Type} {width : Nat} {f : α → List Byte} (h : ∀ x, (f x).length = width) (l : List α) (rest : List Byte) :
    entries width l.length (l.flatMap f ++ rest) = l.map f := by
  induction l with
  | nil => rfl
  | cons x l ih =>
    rw [List.length_cons, entries, List.flatMap_cons, List.append_assoc, List.take_left' (h x), List.drop_left' (h x), ih]
    rfl

theorem toInt_twos {v : Int} (hlow : -32768 ≤ v) (hhigh : v ≤ 32767) : (BitVec.ofNat 16 (twos 2 v)).toInt = v := by
  have hcases : twos 2 v = if v < 0 then (v + 65536).toNat else v.toNat := by
    unfold twos
    split <;> omega
  rw [hcases, BitVec.toInt_ofNat']
  split <;> rw [Int.bmod_def] <;> split <;> omega

theorem entries_read {α : Type} {width : Nat} {f : α → List Byte} (h : ∀ x, (f x).length = width) {read : List Byte → α} {l : List α}
    (hread : ∀ x ∈ l, read (f x) = x) (rest : List Byte) : (entries width l.length (l.flatMap f ++ rest)).map read = l := by
  rw [entries_flatMap h, List.map_map]
  exact (List.map_congr_left hread).trans (List.map_id l)

/-- A signed field of two bytes is read as the value it was sent for. -/
theorem leInt16_slice {bytes : List Byte} {i : Nat} {v : Int} (h : field bytes i 2 = twos 2 v) (hlow : -32768 ≤ v) (hhigh : v ≤ 32767) :
    leInt16 (slice bytes i 2) = v := by
  rw [leInt16, show leNat (slice bytes i 2) = twos 2 v from h]
  exact toInt_twos hlow hhigh

theorem FieldsFrom.of_render {bytes : List Byte} {fs : List (Nat × Nat)} (h : bytes = render fs) : FieldsFrom bytes 0 fs :=
  ((fieldsAt_iff _ _ _).1 (FieldsAt.of_render h)).1

/-! ## Each item that passes its checks is read back (R147) -/

theorem readSite_fields {v : SiteItem} (h : v.ok = true) : readSite (Item.site v).fields = v := by
  obtain ⟨hinterval, hthreshold, haxle, hgvw, hgate, hq, hjump, -⟩ := FieldsFrom.of_render (Item.site v).fields_eq
  simp only [SiteItem.ok, Bool.and_eq_true, Bool.or_eq_true, decide_eq_true_eq, within_iff] at h
  obtain ⟨⟨⟨⟨⟨⟨okInterval, okThreshold⟩, okAxle⟩, okGvw⟩, okGate⟩, okQ⟩, okJump⟩ := h
  simp (disch := omega) only [Nat.mod_eq_of_lt, Nat.zero_add, Nat.reduceAdd] at hinterval hthreshold haxle hgvw hgate hq hjump
  rw [readSite, hinterval, hthreshold, haxle, hgvw, hgate, hq, hjump]

theorem readDrift_fields {v : DriftItem} (h : v.ok = true) : readDrift (Item.drift v).fields = v := by
  obtain ⟨hclass, htarget, hwindow, hbatch, hgain, hstep, -⟩ := FieldsFrom.of_render (Item.drift v).fields_eq
  simp only [DriftItem.ok, Bool.and_eq_true, within_iff] at h
  obtain ⟨⟨⟨⟨⟨okClass, okTarget⟩, okWindow⟩, okBatch⟩, okGain⟩, okStep⟩ := h
  simp (disch := omega) only [Nat.mod_eq_of_lt, Nat.zero_add, Nat.reduceAdd] at hclass htarget hwindow hbatch hgain hstep
  rw [readDrift, hclass, htarget, hwindow, hbatch, hgain, hstep]

theorem readChannel_fields {v : ChannelItem} (h : v.ok = true) (ch : ChannelId) : readChannel (Item.channel ch v).fields = some v := by
  obtain ⟨henabled, hk, hm, hthOn, hthOff, hcOn, hcOff, hwMin, hwMax, hsensitivity, -⟩ := FieldsFrom.of_render (Item.channel ch v).fields_eq
  simp only [ChannelItem.ok, Bool.and_eq_true, decide_eq_true_eq, within_iff] at h
  obtain ⟨⟨⟨⟨⟨⟨⟨⟨⟨okK, okM⟩, okThOn⟩, okThOff⟩, okCOn⟩, okCOff⟩, okWMin⟩, okWMax⟩, -⟩, okSensitivity⟩ := h
  simp (disch := omega) only [Nat.mod_eq_of_lt, Nat.zero_add, Nat.reduceAdd] at hk hm hthOn hthOff hcOn hcOff hwMin hwMax hsensitivity
  rw [readChannel, henabled, flagOf_toNat, hk, hm, hthOn, hthOff, hcOn, hcOff, hwMin, hwMax, hsensitivity]
  rfl

theorem readLane_fields {v : LaneItem} (h : v.ok = true) (n : LaneId) : readLane (Item.lane n v).fields = some v := by
  obtain ⟨henabled, hloop, hrow, hvLo, hvHi, hpair, hhold, hsMax, hgapLoop, hgapNoLoop, hopen, hfallback, hlow, hhigh, haccel, hrowTol,
    hpermit, -⟩ := FieldsFrom.of_render (Item.lane n v).fields_eq
  simp only [LaneItem.ok, Bool.and_eq_true, decide_eq_true_eq, within_iff] at h
  obtain ⟨⟨⟨⟨⟨⟨⟨⟨⟨⟨⟨⟨⟨⟨okRow, okVLo⟩, okVHi⟩, okPair⟩, okHold⟩, okSMax⟩, okGapLoop⟩, okGapNoLoop⟩, okOpen⟩, okFallback⟩, okLow⟩, okHigh⟩, -⟩,
    okAccel⟩, okRowTol⟩ := h
  simp (disch := omega) only [Nat.mod_eq_of_lt, Nat.zero_add, Nat.reduceAdd] at hrow hvLo hvHi hpair hhold hsMax hgapLoop hgapNoLoop
  simp (disch := omega) only [Nat.mod_eq_of_lt, Nat.zero_add, Nat.reduceAdd] at hopen hfallback hlow hhigh haccel hrowTol
  have hbits : BitVec.ofNat 32 (field (Item.lane n v).fields 32 4) = v.permit := by
    rw [show field (Item.lane n v).fields 32 4 = _ from hpermit, Nat.mod_eq_of_lt (b := 256 ^ 4) v.permit.isLt, BitVec.ofNat_toNat,
      BitVec.setWidth_eq]
  rw [readLane, henabled, hloop, flagOf_toNat, flagOf_toNat, hrow, hvLo, hvHi, hpair, hhold, hsMax, hgapLoop, hgapNoLoop, hopen, hfallback, hlow,
    hhigh, haccel, hrowTol, hbits]

theorem readSpeedTab_fields {points : List (Nat × Nat)} (h : speedTabOk points = true) (n : LaneId) :
    readSpeedTab (Item.speedTab n points).fields = points := by
  simp only [speedTabOk, Bool.and_eq_true, decide_eq_true_eq, List.all_eq_true, within_iff] at h
  obtain ⟨⟨hlength, hpoints⟩, -⟩ := h
  have hcount : field (Item.speedTab n points).fields 0 1 = points.length := by
    obtain ⟨hcount, -⟩ := FieldsFrom.of_render (Item.speedTab n points).fields_eq
    exact hcount.trans (Nat.mod_eq_of_lt (by omega))
  have hpoint : ∀ p ∈ points, (field (leBytes 2 p.1 ++ leBytes 2 p.2) 0 2, field (leBytes 2 p.1 ++ leBytes 2 p.2) 2 2) = p := fun p hp => by
    obtain ⟨hspeed, hfactor, -⟩ := FieldsFrom.of_render (fs := [(2, p.1), (2, p.2)]) (bytes := leBytes 2 p.1 ++ leBytes 2 p.2) (by simp)
    obtain ⟨okSpeed, okFactor⟩ := hpoints p hp
    simp (disch := omega) only [Nat.mod_eq_of_lt, Nat.zero_add] at hspeed hfactor
    rw [hspeed, hfactor]
  have hread := entries_read (width := 4) (f := fun p : Nat × Nat => leBytes 2 p.1 ++ leBytes 2 p.2)
    (read := fun e => (field e 0 2, field e 2 2)) (fun p => by simp) hpoint []
  rw [List.append_nil] at hread
  rw [readSpeedTab, hcount]
  exact hread

theorem readTempTab_fields {factors : List Nat} (h : tempTabOk factors = true) : readTempTab (Item.tempTab factors).fields = factors := by
  simp only [tempTabOk, Bool.and_eq_true, decide_eq_true_eq, List.all_eq_true, within_iff] at h
  obtain ⟨hlength, hfactors⟩ := h
  have hcount : field (Item.tempTab factors).fields 0 1 = factors.length := by
    obtain ⟨hcount, -⟩ := FieldsFrom.of_render (Item.tempTab factors).fields_eq
    exact hcount.trans (Nat.mod_eq_of_lt (by omega))
  have hfactor : ∀ k ∈ factors, leNat (leBytes 2 k) = k := fun k hk => by
    have okFactor := hfactors k hk
    rw [leNat_leBytes, Nat.mod_eq_of_lt (by omega)]
  have hread := entries_read (leBytes_length 2) hfactor []
  rw [List.append_nil] at hread
  rw [readTempTab, hcount]
  exact hread

theorem readProbe_fields {v : ProbeItem} (h : v.ok = true) (p : ProbeId) : readProbe (Item.probe p v).fields = some v := by
  simp only [ProbeItem.ok, Bool.and_eq_true, decide_eq_true_eq, List.all_eq_true, within_iff, withinInt_iff] at h
  obtain ⟨⟨hlength, hpoints⟩, -⟩ := h
  have hrole : field (Item.probe p v).fields 0 2 = v.role.code % 256 ^ 2 := by
    rw [Item.fields, List.append_assoc]
    exact field_leBytes 2 _ _
  have hcount : field (Item.probe p v).fields 2 1 = v.points.length := by
    obtain ⟨-, hcount, -⟩ := FieldsFrom.of_render (Item.probe p v).fields_eq
    exact hcount.trans (Nat.mod_eq_of_lt (by omega))
  have hpoint : ∀ q ∈ v.points,
      (field (leBytes 4 q.1 ++ leSigned 2 q.2) 0 4, leInt16 (slice (leBytes 4 q.1 ++ leSigned 2 q.2) 4 2)) = q := fun q hq => by
    obtain ⟨hf10, hreading, -⟩ := FieldsFrom.of_render (fs := [(4, q.1), (2, twos 2 q.2)]) (bytes := leBytes 4 q.1 ++ leSigned 2 q.2)
      (by simp [leSigned_eq])
    obtain ⟨okF10, okReading⟩ := hpoints q hq
    rw [leInt16_slice (hreading.trans (twos_mod 2 _)) (by omega) (by omega)]
    simp (disch := omega) only [Nat.mod_eq_of_lt] at hf10
    rw [hf10]
  have hread := entries_read (width := 6) (f := fun q : Nat × Int => leBytes 4 q.1 ++ leSigned 2 q.2)
    (read := fun e => (field e 0 4, leInt16 (slice e 4 2))) (fun q => by simp [leSigned_eq]) hpoint []
  rw [List.append_nil] at hread
  rw [readProbe, hrole, roleOf_code, hcount]
  exact congrArg (fun points => some ({ role := v.role, points := points } : ProbeItem)) hread

/-! ## A class rule -/

theorem presence_bits (a b c d : Bool) (n : Nat) (h : n = 1 + 2 * a.toNat + 4 * b.toNat + 8 * c.toNat + 16 * d.toNat) :
    n < 32 ∧ n % 2 = 1 ∧ (n / 2 % 2 = 1 ↔ a = true) ∧ (n / 4 % 2 = 1 ↔ b = true) ∧ (n / 8 % 2 = 1 ↔ c = true) ∧
      (n / 16 % 2 = 1 ↔ d = true) := by
  subst h
  revert a b c d
  decide

/-- The fields of a class rule behind its spacings. -/
def classTail (r : ClassRule) : List (Nat × Nat) :=
  [(4, (r.gvw.map Bounds.min).getD 0), (4, (r.gvw.map Bounds.max).getD 0), (2, r.minFirstAxle.getD 0), (2, r.axleLimit.getD 0),
    (4, r.gvwLimit.getD 0)]

/-- The fields of a class rule before its spacings. -/
def classHead (r : ClassRule) : List (Nat × Nat) :=
  [(1, r.presence), (2, r.code), (2, r.axles.min), (2, r.axles.max), (1, r.spacings.length)]

theorem classRule_fields (i : Fin 32) (r : ClassRule) : (Item.classRule i (some r)).fields =
    render (classHead r) ++ (r.spacings.flatMap (fun b => leBytes 2 b.min ++ leBytes 2 b.max) ++ render (classTail r)) := by
  rw [Item.fields_eq]
  simp [fieldLayout, itemLayout, classHead, classTail, ClassRule.presence_eq]

/-- An optional field that its presence bit stands for. -/
theorem optional_read {α : Type} {o : Option α} {bit : Prop} [Decidable bit] (hbit : bit ↔ o.isSome = true) {x : α}
    (hx : ∀ a, o = some a → x = a) : (if bit then some x else none) = o := by
  cases o with
  | none => exact if_neg fun h => by simpa using hbit.1 h
  | some a => rw [if_pos (hbit.2 rfl), hx a rfl]

/-- A class rule's bytes: how many spacings there are, where they stand, and where the limits stand behind them. -/
theorem classRule_parts (i : Fin 32) (r : ClassRule) :
    let f := (Item.classRule i (some r)).fields
    FieldsFrom f 0 (classHead r) ∧
      f.drop 8 = r.spacings.flatMap (fun b => leBytes 2 b.min ++ leBytes 2 b.max) ++ render (classTail r) ∧
      f.drop (8 + 4 * r.spacings.length) = render (classTail r) := by
  simp only [classRule_fields]
  have hhead : (render (classHead r)).length = 8 := render_length _
  have hspacings : (r.spacings.flatMap fun b => leBytes 2 b.min ++ leBytes 2 b.max).length = 4 * r.spacings.length :=
    length_flatMap_const (fun b => by simp) _
  refine ⟨(StandsAt.first _ _).fields, List.drop_left' hhead, ?_⟩
  rw [← List.drop_drop, List.drop_left' hhead, List.drop_left' hspacings]

/-- Two bounds of a spacing from their four bytes. -/
def readBounds (e : List Byte) : Bounds := { min := field e 0 2, max := field e 2 2 }

theorem readClass_fields {r : ClassRule} (h : r.ok = true) (i : Fin 32) : readClass (Item.classRule i (some r)).fields = some (some r) := by
  simp only [ClassRule.ok, Bool.and_eq_true, decide_eq_true_eq, List.all_eq_true, Option.all_eq_true, within_iff] at h
  obtain ⟨⟨⟨⟨⟨⟨⟨⟨okCode, okMin⟩, okMax⟩, okLength⟩, okSpacings⟩, okGvw⟩, okFirst⟩, okAxle⟩, okLimit⟩ := h
  obtain ⟨hhead, hspacings, htail⟩ := classRule_parts i r
  obtain ⟨hlow, hrule, hgvwBit, hfirstBit, haxleBit, hlimitBit⟩ := presence_bits _ _ _ _ _ r.presence_eq
  generalize (Item.classRule i (some r)).fields = f at hhead hspacings htail ⊢
  obtain ⟨hpresence, hcode, hmin, hmax, hcount, -⟩ := hhead
  simp (disch := omega) only [Nat.mod_eq_of_lt, Nat.zero_add, Nat.reduceAdd] at hpresence hcode hmin hmax hcount
  obtain ⟨hgvwMin, hgvwMax, hfirst, haxle, hlimit, -⟩ := FieldsFrom.of_render htail
  have hbounds : ∀ b ∈ r.spacings, readBounds (leBytes 2 b.min ++ leBytes 2 b.max) = b := fun b hb => by
    obtain ⟨hbmin, hbmax, -⟩ := FieldsFrom.of_render (fs := [(2, b.min), (2, b.max)]) (bytes := leBytes 2 b.min ++ leBytes 2 b.max) (by simp)
    obtain ⟨okBMin, okBMax⟩ := okSpacings b hb
    simp (disch := omega) only [Nat.mod_eq_of_lt, Nat.zero_add] at hbmin hbmax
    rw [readBounds, hbmin, hbmax]
  have hread := entries_read (width := 4) (f := fun b : Bounds => leBytes 2 b.min ++ leBytes 2 b.max)
    (read := readBounds) (fun b => by simp) hbounds (render (classTail r))
  rw [← hspacings] at hread
  have hgvw : (if r.presence / 2 % 2 = 1 then
      some ({ min := field (f.drop (8 + 4 * r.spacings.length)) 0 4, max := field (f.drop (8 + 4 * r.spacings.length)) 4 4 } : Bounds)
      else none) = r.gvw := optional_read hgvwBit fun b hb => by
    obtain ⟨okBMin, okBMax⟩ := okGvw b hb
    simp (disch := omega) only [hb, Option.map_some, Option.getD_some, Nat.mod_eq_of_lt, Nat.zero_add] at hgvwMin hgvwMax
    rw [hgvwMin, hgvwMax]
  have hminFirst : (if r.presence / 4 % 2 = 1 then some (field (f.drop (8 + 4 * r.spacings.length)) 8 2) else none) = r.minFirstAxle :=
    optional_read hfirstBit fun n hn => by
      have okN := okFirst n hn
      simp (disch := omega) only [hn, Option.getD_some, Nat.mod_eq_of_lt, Nat.zero_add, Nat.reduceAdd] at hfirst
      exact hfirst
  have haxleLimit : (if r.presence / 8 % 2 = 1 then some (field (f.drop (8 + 4 * r.spacings.length)) 10 2) else none) = r.axleLimit :=
    optional_read haxleBit fun n hn => by
      have okN := okAxle n hn
      simp (disch := omega) only [hn, Option.getD_some, Nat.mod_eq_of_lt, Nat.zero_add, Nat.reduceAdd] at haxle
      exact haxle
  have hgvwLimit : (if r.presence / 16 % 2 = 1 then some (field (f.drop (8 + 4 * r.spacings.length)) 12 4) else none) = r.gvwLimit :=
    optional_read hlimitBit fun n hn => by
      have okN := okLimit n hn
      simp (disch := omega) only [hn, Option.getD_some, Nat.mod_eq_of_lt, Nat.zero_add, Nat.reduceAdd] at hlimit
      exact hlimit
  have hnot : ¬ r.presence % 2 = 0 := by omega
  rw [readClass]
  simp only [hpresence, hcount, if_neg (Nat.not_le.2 hlow), if_neg hnot, hcode, hmin, hmax, hgvw, hminFirst, haxleLimit, hgvwLimit]
  exact congrArg (fun spacings => some (some ({ r with spacings := spacings } : ClassRule))) hread

/-! ## The round trip -/

theorem readItem_fields (i : Item) (h : i.ok = true) : readItem i.id i.fields = some i := by
  cases i with
  | site v =>
    have hok : v.ok = true := h
    simp only [Item.id, readItem, readSite_fields hok]
  | lane n v =>
    have hok : v.ok = true := h
    simp only [Item.id, readItem, readLane_fields hok n, Option.map_some]
  | channel ch v =>
    have hok : v.ok = true := h
    simp only [Item.id, readItem, readChannel_fields hok ch, Option.map_some]
  | speedTab n points =>
    have hok : speedTabOk points = true := h
    simp only [Item.id, readItem, readSpeedTab_fields hok n]
  | tempTab factors =>
    have hok : tempTabOk factors = true := h
    simp only [Item.id, readItem, readTempTab_fields hok]
  | drift v =>
    have hok : v.ok = true := h
    simp only [Item.id, readItem, readDrift_fields hok]
  | probe p v =>
    have hok : v.ok = true := h
    simp only [Item.id, readItem, readProbe_fields hok p, Option.map_some]
  | classRule i v =>
    cases v with
    | none => rfl
    | some r =>
      have hok : r.ok = true := h
      simp only [Item.id, readItem, readClass_fields hok i, Option.map_some]

theorem acceptedItem_fields (i : Item) (h : i.ok = true) : acceptedItem i.id i.fields = some i := by
  rw [acceptedItem, readItem_fields i h]
  exact if_pos h

/-- The count byte of an item's list gives the length of its fields. -/
theorem fieldsLength_fields (i : Item) (h : i.ok = true) : fieldsLength i.id i.fields = some i.fields.length := by
  have hcount : ∀ n, n < 256 → (BitVec.ofNat 8 n).toNat = n := fun n hn => Nat.mod_eq_of_lt hn
  cases i with
  | site | lane | channel | drift =>
    rw [Item.fields_eq, render_length]
    simp [fieldsLength, Item.id, fieldLayout, itemLayout]
  | speedTab n points =>
    simp only [Item.ok, speedTabOk, Bool.and_eq_true, decide_eq_true_eq] at h
    obtain ⟨⟨hlength, -⟩, -⟩ := h
    have hbytes : (points.flatMap fun p => leBytes 2 p.1 ++ leBytes 2 p.2).length = 4 * points.length :=
      length_flatMap_const (fun p => by simp) _
    show some (1 + 4 * (BitVec.ofNat 8 points.length).toNat) = _
    rw [hcount _ (by omega), Item.fields, List.length_append, hbytes]
    rfl
  | tempTab factors =>
    simp only [Item.ok, tempTabOk, Bool.and_eq_true, decide_eq_true_eq] at h
    obtain ⟨hlength, -⟩ := h
    show some (1 + 2 * (BitVec.ofNat 8 factors.length).toNat) = _
    rw [hcount _ (by omega), Item.fields, List.length_append, length_flatMap_const (leBytes_length 2)]
    rfl
  | probe p v =>
    simp only [Item.ok, ProbeItem.ok, Bool.and_eq_true, decide_eq_true_eq] at h
    obtain ⟨⟨hlength, -⟩, -⟩ := h
    have hbytes : (v.points.flatMap fun q => leBytes 4 q.1 ++ leSigned 2 q.2).length = 6 * v.points.length :=
      length_flatMap_const (fun q => by simp [leSigned_eq]) _
    show some (3 + 6 * (BitVec.ofNat 8 v.points.length).toNat) = _
    rw [hcount _ (by omega), Item.fields, List.length_append, hbytes]
    rfl
  | classRule i v =>
    cases v with
    | none => rfl
    | some r =>
      have hlength : r.spacings.length ≤ 12 := by
        simp only [Item.ok, Option.all_some, ClassRule.ok, Bool.and_eq_true, decide_eq_true_eq] at h
        obtain ⟨⟨⟨⟨⟨⟨-, hlength⟩, -⟩, -⟩, -⟩, -⟩, -⟩ := h
        exact hlength
      have hbytes : (r.spacings.flatMap fun b => leBytes 2 b.min ++ leBytes 2 b.max).length = 4 * r.spacings.length :=
        length_flatMap_const (fun b => by simp) _
      show some (24 + 4 * (BitVec.ofNat 8 r.spacings.length).toNat) = _
      rw [hcount _ (by omega), classRule_fields, List.length_append, List.length_append, hbytes, render_length, render_length]
      simp only [classHead, classTail, List.map_cons, List.map_nil, List.sum_cons, List.sum_nil]
      congr 1
      omega

theorem itemIdOf_bytes (id : ItemId) :
    itemIdOf (BitVec.ofNat 8 id.codes.1 : Byte).toNat (BitVec.ofNat 8 id.codes.2 : Byte).toNat = some id := by
  obtain ⟨hkind, hindex⟩ := id.codes_lt
  rw [BitVec.toNat_ofNat, BitVec.toNat_ofNat, Nat.mod_eq_of_lt hkind, Nat.mod_eq_of_lt hindex, itemIdOf_codes]

/-- Settles O54, by the fields of each item and what the checks say of their ranges. -/
theorem itemsRoundTrip : Obligations.ItemsRoundTrip := by
  refine ⟨fun i => .of_render i.bytes_eq, fun i hok => ?_⟩
  have hid := itemIdOf_bytes i.id
  have hbytes : i.bytes = BitVec.ofNat 8 i.id.codes.1 :: BitVec.ofNat 8 i.id.codes.2 :: i.fields := rfl
  refine ⟨?_, ?_, itemIdOf_codes i.id⟩
  · rw [hbytes]
    simp only [stagePutLength, hid, fieldsLength_fields i hok, decide_true]
  · rw [hbytes]
    simp only [stagePutItem, hid, Option.bind_some, acceptedItem_fields i hok]

end Sys2Proof.Machine
end

section
/-! The STATUS reply: each block's fields, and their places in the whole (R13, R35, R72, R92, R156, R172, R178, R183, R185). -/

namespace Sys2Proof.Machine

/-! ## Each block's fields -/

theorem optOnes_byte (v : Option Nat) : optOnes 1 v = leBytes 1 (v.getD 255) := rfl

theorem optOnes_two (v : Option Nat) : optOnes 2 v = leBytes 2 (v.getD 65535) := rfl

theorem Timebase.bytes_eq (tb : Timebase) : tb.bytes = render
    [(1, tb.lock.code), (2, tb.nRef), (1, tb.lastInterval.isSome.toNat), (4, tb.lastInterval.getD 0), (4, tb.t.toNat), (4, tb.seconds.toNat),
      (2, ticksSince tb.t tb.mark), (2, tb.rejectedEdges), (2, tb.relocks)] := by
  simp [Timebase.bytes, codeByte, optWord_eq]

theorem ChannelUnit.statusBytes_eq (u : ChannelUnit) : u.statusBytes = render [(1, u.service.code), (2, u.generation.getD 0)] := by
  simp [ChannelUnit.statusBytes, codeByte, optZero]

theorem Lane.statusBytes_eq (l : Lane) :
    l.statusBytes = render [(1, l.reported.code), (2, (l.asm.adopted.map Generation.number).getD 0)] := by
  simp [Lane.statusBytes, Lane.adoptedBytes, codeByte, optZero]

theorem Lane.adoptedBytes_eq (l : Lane) : l.adoptedBytes = render [(2, (l.asm.adopted.map Generation.number).getD 0)] := by
  simp [Lane.adoptedBytes, optZero]

theorem Probe.statusBytes_eq (p : Probe) : p.statusBytes = render [(1, p.role.code), (1, p.state.code)] := by
  simp [Probe.statusBytes, codeByte]

theorem TempUnit.twBytes_eq (u : TempUnit) : u.twBytes = render [(2, twos 2 u.tw), (1, u.held.toNat)] := by
  simp [TempUnit.twBytes, leSigned_eq, flagByte_eq]

theorem TableStore.bytes_eq (t : TableStore) : t.bytes = render
    [(1, t.staging.isSome.toNat), (2, (t.staging.bind Staging.source).getD 0), (2, (t.active.map Generation.number).getD 0),
      (2, (t.retiring.map Generation.number).getD 0)] := by
  simp [TableStore.bytes, flagByte_eq, optZero]

theorem RecordStore.bytes_eq (r : RecordStore) : r.bytes = render
    [(2, r.held.length), (6, (r.held.head?.bind VehicleRecord.serial).getD 0), (6, r.serial.getD 0), (2, r.dropped),
      (1, if r.armed then 0 else 1)] := by
  simp [RecordStore.bytes, RecordStore.oldest, codeByte, optZero]

theorem TallyUnit.bytes_eq (t : TallyUnit) : t.bytes = render [(1, t.queue.length), (4, t.openedAt.toNat), (2, t.extension)] := by
  simp [TallyUnit.bytes, codeByte]

/-- The code of a capture trigger, 0xFF when there is none. -/
def triggerCode : Option Trigger → Nat
  | none => 255
  | some .next => 0
  | some .flagged => 1
  | some (.cls _) => 2
  | some .enforce => 3

/-- The class a capture trigger names, 0 where it names none and 0xFF when there is no trigger. -/
def triggerClass : Option Trigger → Nat
  | none => 255
  | some (.cls c) => c
  | some _ => 0

theorem triggerBytes_eq (t : Option Trigger) : triggerBytes t = leBytes 1 (triggerCode t) ++ leBytes 1 (triggerClass t) := by
  rcases t with - | (- | - | - | -) <;> rfl

theorem CaptureUnit.bytes_eq (c : CaptureUnit) : c.bytes = render
    [(1, c.state.code), (1, (c.lane.map fun n => n.val + 1).getD 255), (1, c.d.getD 255), (1, triggerCode c.trigger),
      (1, triggerClass c.trigger), (2, (c.description.map Description.count).getD 65535)] := by
  simp [CaptureUnit.bytes, codeByte, optLane, optOnes_byte, optOnes_two, triggerBytes_eq]

theorem StandsAt.capture {bytes : List Byte} {i : Nat} {c : CaptureUnit} (h : StandsAt bytes i c.bytes) : CaptureAt bytes i c := by
  rw [c.bytes_eq] at h
  obtain ⟨hstate, hlane, hd, htrigger, hclass, hcount, -⟩ := h.fields
  refine ⟨hstate.trans ?_, hlane.trans ?_, hd, htrigger.trans ?_, hclass.trans ?_, hcount⟩
  · cases c.state <;> rfl
  · refine Nat.mod_eq_of_lt ?_
    cases c.lane with
    | none => decide
    | some ln => exact (Nat.succ_le_of_lt (Nat.succ_lt_succ ln.isLt)).trans (by decide)
  · rcases c.trigger with - | (- | - | - | -) <;> rfl
  · rcases c.trigger with - | (- | - | - | -) <;> rfl

/-! ## The reply and its places -/

theorem field_at {bytes : List Byte} {i j width v : Nat} (h : field bytes i width = v) (hij : j = i) : field bytes j width = v := hij ▸ h

/-- A field is its first byte and the field behind it. -/
theorem field_succ (bytes : List Byte) (i n : Nat) : field bytes i (n + 1) = field bytes i 1 + 256 * field bytes (i + 1) n := by
  have hdrop : bytes.drop (i + 1) = (bytes.drop i).drop 1 := by rw [List.drop_drop]
  rw [field, field, field, slice, slice, slice, hdrop]
  cases bytes.drop i with
  | nil => simp [leNat]
  | cons b rest => simp [leNat]

theorem field_zeros {bytes : List Byte} {i n : Nat} (hfirst : field bytes i 1 = 0) (hrest : field bytes (i + 1) n = 0) :
    field bytes i (n + 1) = 0 := by
  rw [field_succ, hfirst, hrest]

section
variable (s : State)

/-- The parts of a STATUS reply, its result code first. -/
def State.statusParts : List (List Byte) :=
  [[codeOk], s.tb.bytes, allChannels.flatMap (fun ch => (s.unit ch).statusBytes), s.lanes.toList.flatMap Lane.statusBytes,
    s.temp.probes.toList.flatMap Probe.statusBytes, s.temp.twBytes, s.tables.bytes, s.lanes.toList.flatMap Lane.adoptedBytes,
    allChannels.flatMap (fun ch => optZero 2 (s.unit ch).generation), s.store.bytes, s.tally.bytes, s.capture.bytes,
    leBytes 2 s.link.badFrames, leBytes 2 s.link.overruns]

theorem State.statusParts_flatten : codeOk :: s.statusBytes = s.statusParts.flatten := by
  simp [State.statusBytes, State.statusParts]

theorem ChannelUnit.statusBytes_length (u : ChannelUnit) : u.statusBytes.length = 3 := by
  rw [u.statusBytes_eq, render_length]
  rfl

theorem Lane.statusBytes_length (l : Lane) : l.statusBytes.length = 3 := by
  rw [l.statusBytes_eq, render_length]
  rfl

theorem Lane.adoptedBytes_length (l : Lane) : l.adoptedBytes.length = 2 := by
  rw [l.adoptedBytes_eq, render_length]
  rfl

theorem Probe.statusBytes_length (p : Probe) : p.statusBytes.length = 2 := by
  rw [p.statusBytes_eq, render_length]
  rfl

theorem CaptureUnit.bytes_length (c : CaptureUnit) : c.bytes.length = 7 := by
  rw [c.bytes_eq, render_length]
  rfl

theorem State.statusParts_lengths :
    s.statusParts.map List.length = [1, 22, 48, 12, 8, 3, 7, 8, 32, 17, 7, 7, 2, 2] := by
  have hunits : (allChannels.flatMap fun ch => (s.unit ch).statusBytes).length = 48 :=
    length_flatMap_const (fun ch => (s.unit ch).statusBytes_length) allChannels
  have hgenerations : (allChannels.flatMap fun ch => optZero 2 (s.unit ch).generation).length = 32 :=
    length_flatMap_const (fun ch => leBytes_length 2 _) allChannels
  have hlanes : (s.lanes.toList.flatMap Lane.statusBytes).length = 12 := four_length fun ln => (s.lanes.get ln).statusBytes_length
  have hadopted : (s.lanes.toList.flatMap Lane.adoptedBytes).length = 8 := four_length fun ln => (s.lanes.get ln).adoptedBytes_length
  have hprobes : (s.temp.probes.toList.flatMap Probe.statusBytes).length = 8 := four_length fun p => (s.probe p).statusBytes_length
  simp only [State.statusParts, List.map_cons, List.map_nil, hunits, hgenerations, hlanes, hadopted, hprobes, CaptureUnit.bytes_length,
    leBytes_length, List.length_singleton, Timebase.bytes_eq, TempUnit.twBytes_eq, TableStore.bytes_eq, RecordStore.bytes_eq,
    TallyUnit.bytes_eq, render_length]
  rfl

theorem exec_status_eq (tag : Byte) :
    exec (.status tag []) s = .next (s.clearReported.answer 0x01 tag [] (codeOk :: s.statusBytes)) := rfl

/-- A part of the reply stands behind the lengths of those before it. -/
theorem State.status_part (k : Nat) (hk : k < 14) :
    StandsAt (codeOk :: s.statusBytes) ([1, 22, 48, 12, 8, 3, 7, 8, 32, 17, 7, 7, 2, 2].take k).sum (s.statusParts[k]'hk) := by
  rw [s.statusParts_flatten]
  exact StandsAt.ofParts s.statusParts_lengths k hk

theorem State.status_channel (ch : ChannelId) :
    field (codeOk :: s.statusBytes) (20 + 3 * channelNumber ch) 1 = (s.unit ch).service.code % 256 ∧
      field (codeOk :: s.statusBytes) (21 + 3 * channelNumber ch) 2 = (s.unit ch).generation.getD 0 % 65536 := by
  have hplace : StandsAt _ (23 + 3 * (4 * ch.lane.val + ch.strip.val)) (s.unit ch).statusBytes :=
    (s.status_part 2 (by decide)).trans (StandsAt.ofChannels (fun ch => (s.unit ch).statusBytes_length) ch)
  rw [ChannelUnit.statusBytes_eq] at hplace
  obtain ⟨hservice, hgeneration, -⟩ := hplace.fields
  exact ⟨field_at hservice (by simp only [channelNumber]; omega), field_at hgeneration (by simp only [channelNumber]; omega)⟩

theorem State.status_lane (ln : LaneId) :
    field (codeOk :: s.statusBytes) (71 + 3 * ln.val) 1 = (s.lanes.get ln).reported.code % 256 ∧
      field (codeOk :: s.statusBytes) (72 + 3 * ln.val) 2 = ((s.asm ln).adopted.map Generation.number).getD 0 % 65536 := by
  have hplace : StandsAt _ (71 + 3 * ln.val) (s.lanes.get ln).statusBytes :=
    (s.status_part 3 (by decide)).trans (StandsAt.ofFour (fun ln => (s.lanes.get ln).statusBytes_length) ln)
  rw [Lane.statusBytes_eq] at hplace
  obtain ⟨hreported, hadopted, -⟩ := hplace.fields
  exact ⟨hreported, field_at hadopted (by omega)⟩

theorem State.status_probe (p : ProbeId) :
    field (codeOk :: s.statusBytes) (83 + 2 * p.val) 1 = (s.probe p).role.code % 256 ∧
      field (codeOk :: s.statusBytes) (84 + 2 * p.val) 1 = (s.probe p).state.code % 256 := by
  have hplace : StandsAt _ (83 + 2 * p.val) (s.probe p).statusBytes :=
    (s.status_part 4 (by decide)).trans (StandsAt.ofFour (fun p => (s.probe p).statusBytes_length) p)
  rw [Probe.statusBytes_eq] at hplace
  obtain ⟨hrole, hstate, -⟩ := hplace.fields
  exact ⟨hrole, field_at hstate (by omega)⟩

theorem State.status_adopted (ln : LaneId) :
    field (codeOk :: s.statusBytes) (101 + 2 * ln.val) 2 = ((s.asm ln).adopted.map Generation.number).getD 0 % 65536 := by
  have hplace : StandsAt _ (101 + 2 * ln.val) (s.lanes.get ln).adoptedBytes :=
    (s.status_part 7 (by decide)).trans (StandsAt.ofFour (fun ln => (s.lanes.get ln).adoptedBytes_length) ln)
  rw [Lane.adoptedBytes_eq] at hplace
  obtain ⟨hadopted, -⟩ := hplace.fields
  exact hadopted

theorem State.status_generation (ch : ChannelId) :
    field (codeOk :: s.statusBytes) (107 + 2 * channelNumber ch) 2 = (s.unit ch).generation.getD 0 % 65536 := by
  have hplace : StandsAt _ (109 + 2 * (4 * ch.lane.val + ch.strip.val)) (optZero 2 (s.unit ch).generation) :=
    (s.status_part 8 (by decide)).trans (StandsAt.ofChannels (f := fun ch => optZero 2 (s.unit ch).generation) (fun ch => leBytes_length 2 _) ch)
  have hrender : optZero 2 (s.unit ch).generation = render [(2, (s.unit ch).generation.getD 0)] := by simp [optZero]
  rw [hrender] at hplace
  obtain ⟨hgeneration, -⟩ := hplace.fields
  exact field_at hgeneration (by simp only [channelNumber]; omega)

/-- A block of the reply whose bytes are fields. -/
theorem State.status_block {k : Nat} (hk : k < 14) {fs : List (Nat × Nat)} (h : s.statusParts[k]'hk = render fs) :
    FieldsFrom (codeOk :: s.statusBytes) ([1, 22, 48, 12, 8, 3, 7, 8, 32, 17, 7, 7, 2, 2].take k).sum fs := by
  have hplace := s.status_part k hk
  rw [h] at hplace
  exact hplace.fields

end

/-- Settles O47, by the places of the blocks in the reply and of the fields in each block. -/
theorem statusReportsAndClears : Obligations.StatusReportsAndClears := by
  intro s tag
  obtain ⟨hlock, hnRef, hhas, hinterval, ht, hseconds, hsubtick, hrejected, hrelocks, -⟩ :=
    s.status_block (k := 1) (by decide) s.tb.bytes_eq
  obtain ⟨htw, hheld, -⟩ := s.status_block (k := 5) (by decide) s.temp.twBytes_eq
  obtain ⟨hstaging, hsource, hactive, hretiring, -⟩ := s.status_block (k := 6) (by decide) s.tables.bytes_eq
  obtain ⟨hcount, holdest, hserial, hdropped, harmed, -⟩ := s.status_block (k := 9) (by decide) s.store.bytes_eq
  obtain ⟨hqueue, hopened, hextension, -⟩ := s.status_block (k := 10) (by decide) s.tally.bytes_eq
  obtain ⟨hbad, -⟩ := s.status_block (k := 12) (by decide) (fs := [(2, s.link.badFrames)]) (by simp [State.statusParts])
  obtain ⟨hoverruns, -⟩ := s.status_block (k := 13) (by decide) (fs := [(2, s.link.overruns)]) (by simp [State.statusParts])
  refine ⟨_, codeOk :: s.statusBytes, exec_status_eq s tag, State.answer_only _ _ _ _ _, ?_, rfl, hlock.trans ?_, hnRef, ?_,
    ht.trans (toNat_mod_word _), hseconds.trans (toNat_mod_word _), hsubtick, hrejected, hrelocks, fun ch => ?_, fun ln => ?_, fun p => ?_,
    fun hlow hhigh => ?_, hheld.trans ?_, hstaging.trans ?_, hsource, hactive, hretiring, s.status_adopted, s.status_generation,
    hcount, holdest, hserial, hdropped, harmed.trans ?_, hqueue, hopened.trans (toNat_mod_word _), hextension,
    (s.status_part 11 (by decide)).capture, hbad, hoverruns⟩
  · rw [s.statusParts_flatten, flatten_length s.statusParts_lengths]
    rfl
  · cases s.tb.lock <;> rfl
  · cases hlast : s.tb.lastInterval with
    | none =>
      rw [hlast] at hhas hinterval
      exact field_zeros hhas hinterval
    | some n =>
      rw [hlast] at hhas hinterval
      exact ⟨hhas, hinterval⟩
  · obtain ⟨hservice, hgeneration⟩ := s.status_channel ch
    refine ⟨hservice.trans ?_, hgeneration⟩
    cases (s.unit ch).service <;> rfl
  · obtain ⟨hreported, hadopted⟩ := s.status_lane ln
    refine ⟨hreported.trans ?_, hadopted⟩
    cases (s.lanes.get ln).reported <;> rfl
  · obtain ⟨hrole, hstate⟩ := s.status_probe p
    refine ⟨hrole.trans ?_, hstate.trans ?_⟩
    · cases (s.probe p).role <;> rfl
    · cases (s.probe p).state <;> rfl
  · exact leInt16_slice (htw.trans (twos_mod 2 _)) hlow hhigh
  · cases s.temp.held <;> rfl
  · cases s.tables.staging <;> rfl
  · cases s.store.armed <;> rfl

end Sys2Proof.Machine
end

section
/-! The layouts of a record, a tally entry, a capture description and the LIVE_READ reply (R185). -/

namespace Sys2Proof.Machine

/-! ## Vehicle records -/

theorem AxleEntry.bytes_eq (e : AxleEntry) : e.bytes = render
    [(2, e.load), (2, e.left), (2, e.right), (2, e.spacing.getD 65535), (2, e.speed.getD 65535),
      (1, e.row.code + bitAt e.straddle 4 + e.single.code * 8)] := by
  simp [AxleEntry.bytes, optOnes_two, codeByte]

theorem AxleEntry.bytes_length (e : AxleEntry) : e.bytes.length = 11 := by
  rw [e.bytes_eq, render_length]
  rfl

theorem StandsAt.axle {bytes : List Byte} {i : Nat} {e : AxleEntry} (h : StandsAt bytes i e.bytes) : AxleAt bytes i e := by
  rw [e.bytes_eq] at h
  obtain ⟨hload, hleft, hright, hspacing, hspeed, hmarks, -⟩ := h.fields
  refine ⟨hload, hleft, hright, hspacing, hspeed, hmarks.trans ?_⟩
  cases e.row <;> cases e.straddle <;> cases e.single <;> rfl

/-- The fields of a record before its axle entries. -/
def recordHead (r : VehicleRecord) : List (Nat × Nat) :=
  [(6, r.serial.getD 0), (1, r.lane.val + 1), (1, r.axles.length), (4, r.seconds.toNat), (2, r.subtick), (2, r.speed.getD 65535), (1, r.cls),
    (1, r.quality.code),
    (1, bitAt r.split 1 + bitAt r.conditions.tempHeld 2 + bitAt r.conditions.timebaseFree 4 + bitAt r.conditions.tailgate 8 +
      bitAt r.conditions.timeout 16 + bitAt r.conditions.captured 32),
    (1, bitAt r.flags.axleOver 1 + bitAt r.flags.gvwOver 2 + bitAt r.flags.laneBanned 4), (2, twos 2 r.tw), (2, r.generation), (2, r.kd),
    (4, r.gvw), (4, r.wheelbase)]

theorem VehicleRecord.bytes_eq (r : VehicleRecord) : r.bytes = render (recordHead r) ++ r.axles.flatMap AxleEntry.bytes := by
  simp [VehicleRecord.bytes, recordHead, optZero, optOnes_two, codeByte, leSigned_eq]

theorem bits_six (a b c d e f : Bool) :
    (bitAt a 1 + bitAt b 2 + bitAt c 4 + bitAt d 8 + bitAt e 16 + bitAt f 32) % 256 ^ 1 =
      a.toNat + 2 * b.toNat + 4 * c.toNat + 8 * d.toNat + 16 * e.toNat + 32 * f.toNat := by
  revert a b c d e f
  decide

theorem bits_three (a b c : Bool) : (bitAt a 1 + bitAt b 2 + bitAt c 4) % 256 ^ 1 = a.toNat + 2 * b.toNat + 4 * c.toNat := by
  revert a b c
  decide

theorem Fin.succ_mod_byte (n : Fin 4) : (n.val + 1) % 256 ^ 1 = n.val + 1 := by omega

theorem VehicleRecord.bytes_layout (r : VehicleRecord) : RecordLayout r.bytes r := by
  have hhead : (render (recordHead r)).length = 34 := by simp [recordHead]
  have haxles : (r.axles.flatMap AxleEntry.bytes).length = 11 * r.axles.length := length_flatMap_const AxleEntry.bytes_length _
  rw [r.bytes_eq]
  obtain ⟨hserial, hlane, hcount, hseconds, hsubtick, hspeed, hcls, hquality, hconditions, hflags, htw, hgeneration, hkd, hgvw, hwheelbase, -⟩ :=
    (StandsAt.first (render (recordHead r)) (r.axles.flatMap AxleEntry.bytes)).fields
  refine ⟨by rw [List.length_append, hhead, haxles], hserial, hlane.trans (Fin.succ_mod_byte _), hcount, hseconds.trans (toNat_mod_word _),
    hsubtick, hspeed, hcls, hquality.trans ?_, hconditions.trans (bits_six ..), hflags.trans (bits_three ..), htw.trans (twos_mod 2 _),
    hgeneration, hkd, hgvw, hwheelbase, fun i hi => ?_⟩
  · cases r.quality <;> rfl
  · exact ((StandsAt.ofList AxleEntry.bytes_length r.axles i hi).behind hhead).axle

/-! ## Tally entries -/

theorem StandsAt.counts {bytes : List Byte} {i : Nat} {counts : List Nat} (h : StandsAt bytes i (counts.flatMap (leBytes 2))) :
    CountsAt bytes i counts := fun j hj => by
  have hplace : StandsAt bytes (i + 2 * j) (leBytes 2 counts[j]) := h.trans (StandsAt.ofList (leBytes_length 2) counts j hj)
  have hrender : leBytes 2 counts[j] = render [(2, counts[j])] := by simp
  rw [hrender] at hplace
  obtain ⟨hcount, -⟩ := hplace.fields
  exact hcount

/-- The parts of a lane block of a tally entry. -/
def tallyParts (t : Tally) : List (List Byte) :=
  [t.classes.flatMap (leBytes 2), t.qualities.flatMap (leBytes 2), t.speeds.flatMap (leBytes 2), t.gvws.flatMap (leBytes 2),
    t.axleLoads.flatMap (leBytes 2), [t.axleOver, t.gvwOver, t.laneBanned, t.spikes, t.singleRow, t.dropped].flatMap (leBytes 2),
    render [(2, twos 2 t.twMin), (2, twos 2 t.twMax), (2, twos 2 t.twLast)]]

theorem Tally.bytes_eq (t : Tally) : t.bytes = (tallyParts t).flatten := by
  simp [Tally.bytes, tallyParts, leSigned_eq]

theorem tallyParts_lengths {t : Tally} (h : t.Sized) : (tallyParts t).map List.length = [64, 20, 32, 32, 32, 12, 6] := by
  obtain ⟨hclasses, hqualities, hspeeds, hgvws, haxleLoads⟩ := h
  simp only [tallyParts, List.map_cons, List.map_nil, length_flatMap_const (leBytes_length 2), render_length, hclasses, hqualities, hspeeds,
    hgvws, haxleLoads]
  rfl

theorem Tally.bytes_length {t : Tally} (h : t.Sized) : t.bytes.length = 198 := by
  rw [t.bytes_eq, flatten_length (tallyParts_lengths h)]
  rfl

/-- A lane's tally at its place. -/
theorem StandsAt.tally {bytes : List Byte} {i : Nat} {t : Tally} (hsized : t.Sized) (h : StandsAt bytes i t.bytes) :
    CountsAt bytes i t.classes ∧ CountsAt bytes (i + 64) t.qualities ∧ CountsAt bytes (i + 84) t.speeds ∧
    CountsAt bytes (i + 116) t.gvws ∧ CountsAt bytes (i + 148) t.axleLoads ∧
    CountsAt bytes (i + 180) [t.axleOver, t.gvwOver, t.laneBanned, t.spikes, t.singleRow, t.dropped] ∧
    Machine.field bytes (i + 192) 2 = twos 2 t.twMin ∧ Machine.field bytes (i + 194) 2 = twos 2 t.twMax ∧
    Machine.field bytes (i + 196) 2 = twos 2 t.twLast := by
  rw [t.bytes_eq] at h
  have hpart := fun k hk => h.trans (StandsAt.ofParts (tallyParts_lengths hsized) k hk)
  have hlast : 6 < (tallyParts t).length := (by decide : 6 < 7)
  obtain ⟨hmin, hmax, hlatest, -⟩ := (hpart 6 hlast).fields
  exact ⟨(hpart 0 (by exact (by decide : 0 < 7))).counts, (hpart 1 (by exact (by decide : 1 < 7))).counts,
    (hpart 2 (by exact (by decide : 2 < 7))).counts, (hpart 3 (by exact (by decide : 3 < 7))).counts,
    (hpart 4 (by exact (by decide : 4 < 7))).counts, (hpart 5 (by exact (by decide : 5 < 7))).counts,
    hmin.trans (twos_mod 2 _), hmax.trans (twos_mod 2 _), hlatest.trans (twos_mod 2 _)⟩

/-- The parts of a tally entry. -/
def entryParts (e : TallyEntry) : List (List Byte) :=
  [render [(4, e.start.toNat), (4, e.finish.toNat), (2, e.extension)], e.probes.toList.flatMap optTemp, e.lanes.toList.flatMap Tally.bytes]

theorem TallyEntry.bytes_eq (e : TallyEntry) : e.bytes = (entryParts e).flatten := by
  simp [TallyEntry.bytes, entryParts]

theorem TallyEntry.bytes_layout (e : TallyEntry) (h : ∀ ln, (e.lanes.get ln).Sized) : TallyLayout e.bytes e := by
  have hprobe : ∀ p, (optTemp (e.probes.get p)).length = 2 := fun p => leBytes_length 2 _
  have hlane : ∀ ln, (e.lanes.get ln).bytes.length = 198 := fun ln => Tally.bytes_length (h ln)
  have hlengths : (entryParts e).map List.length = [10, 8, 792] := by
    simp only [entryParts, List.map_cons, List.map_nil, four_length hprobe, four_length hlane, render_length]
    rfl
  rw [e.bytes_eq]
  obtain ⟨hstart, hfinish, hextension, -⟩ := (StandsAt.ofParts hlengths 0 (by exact (by decide : 0 < 3))).fields
  refine ⟨flatten_length hlengths, hstart.trans (toNat_mod_word _), hfinish.trans (toNat_mod_word _), hextension, fun p => ?_, fun ln => ?_⟩
  · have hplace : StandsAt (entryParts e).flatten (10 + 2 * p.val) (optTemp (e.probes.get p)) :=
      (StandsAt.ofParts hlengths 1 (by exact (by decide : 1 < 3))).trans (StandsAt.ofFour hprobe p)
    have hrender : optTemp (e.probes.get p) = render [(2, twos 2 ((e.probes.get p).getD (-32768)))] := by simp [optTemp_eq]
    rw [hrender] at hplace
    obtain ⟨htemp, -⟩ := hplace.fields
    exact htemp.trans (twos_mod 2 _)
  · have hplace : StandsAt (entryParts e).flatten (18 + 198 * ln.val) (e.lanes.get ln).bytes :=
      (StandsAt.ofParts hlengths 2 (by exact (by decide : 2 < 3))).trans (StandsAt.ofFour hlane ln)
    exact hplace.tally (h ln)

/-! ## Capture descriptions -/

theorem Description.bytes_eq (d : Description) : d.bytes = render
    [(6, d.serial.getD 0), (1, d.lane.val + 1), (4, (d.startTick.map BitVec.toNat).getD 0), (1, d.d), (2, d.count),
      (1, d.truncated.toNat)] := by
  simp [Description.bytes, optZero, codeByte, flagByte_eq]

theorem getD_word_lt (v : Option Tick) : (v.map BitVec.toNat).getD 0 < 256 ^ 4 := by
  cases v with
  | none => decide
  | some t => exact t.isLt

theorem Description.bytes_layout (d : Description) : DescriptionLayout d.bytes d := by
  obtain ⟨hserial, hlane, hstart, hd, hcount, htruncated, hlength⟩ := FieldsAt.of_render d.bytes_eq
  refine ⟨hlength, hserial, hlane.trans (Fin.succ_mod_byte _), hstart.trans (Nat.mod_eq_of_lt (getD_word_lt _)), hd, hcount,
    htruncated.trans ?_⟩
  cases d.truncated <;> rfl

end Sys2Proof.Machine
end

section
/-! The LIVE_READ reply: each block's fields, and their places in the whole (R35, R55, R72, R92, R172, R178, R183, R185). -/

namespace Sys2Proof.Machine

/-! ## Each block's fields -/

theorem ChannelUnit.liveBytes_eq (u : ChannelUnit) : u.liveBytes = render
    [(1, u.service.code), (1, u.detector.code), (2, twos 2 u.y), (2, twos 2 (roundInt u.baseline 256)), (4, twos 4 u.lastExcess),
      (1, u.overlong), (1, u.miss), (2, u.generation.getD 0)] := by
  simp [ChannelUnit.liveBytes, codeByte, leSigned_eq, optZero]

theorem Matcher.liveBytes_eq (m : Matcher) (quiet : Bool) : m.liveBytes quiet = render
    [(1, m.list1.length), (1, m.list2.length), (1, m.queue.length), (1, m.queue.head?.isSome.toNat),
      (4, (m.queue.head?.map fun c => c.onset.toNat).getD 0), (2, (m.windows.map Windows.dtMin).getD 65535),
      (2, (m.windows.map Windows.dtMax).getD 65535), (1, m.mark.isSome.toNat), (4, (m.mark.map BitVec.toNat).getD 0), (1, quiet.toNat)] := by
  simp [Matcher.liveBytes, codeByte, optTick_eq, optOnes_two, flagByte_eq, Function.comp_def]

theorem Assembler.liveBytes_eq (a : Assembler) : a.liveBytes = render
    [(1, a.context.isSome.toNat), (1, a.presence.toNat), (1, yesNo (a.working.map LaneItem.loop)), (2, a.heldSpeed),
      (1, a.context.isSome.toNat), (4, (a.context.map fun c => c.openTick.toNat).getD 0),
      (1, (a.context.map fun c => c.axles.length).getD 0), (2, (a.context.map fun c => c.generation.number).getD 0),
      (2, twos 2 ((a.context.map Context.tw).getD (-32768))), (1, yesNo (a.context.map Context.held)),
      (1, (a.context.map fun c => c.band.val).getD 255), (2, (a.context.map Context.kd).getD 65535),
      (1, yesNo (a.context.map Context.fell)), (1, yesNo (a.context.map Context.split))] := by
  simp [Assembler.liveBytes, codeByte, flagByte_eq, optFlag_eq, optTick_eq, optZero, optTemp_eq, optOnes_byte, optOnes_two, Function.comp_def]

/-- The value a reading is sent as, with its codes for OUT_OF_RANGE, NO_SIGNAL and none. -/
def readingCode : Option Reading → Nat
  | none => 0x8000
  | some (.temp t) => twos 2 t
  | some .outOfRange => 0x7FFF
  | some .noSignal => 0x7FFE

theorem readingBytes_eq (r : Option Reading) : readingBytes r = leBytes 2 (readingCode r) := by
  rcases r with - | (- | - | -) <;> rfl

theorem Probe.liveBytes_eq (p : Probe) : p.liveBytes = render
    [(1, p.role.code), (1, p.state.code), (1, p.lastF10.isSome.toNat), (4, p.lastF10.getD 0), (2, readingCode p.lastReading),
      (2, twos 2 (p.smoothed.getD (-32768))), (1, p.rejectRun), (1, (p.recovery.map Recovery.count).getD 0)] := by
  simp [Probe.liveBytes, codeByte, optWord_eq, readingBytes_eq, optTemp_eq]

theorem TempUnit.liveBytes_eq (u : TempUnit) : u.liveBytes = render
    [(1, (u.gate.map fun g => g.probe.val + 1).getD 255), (1, u.selection.code), (2, twos 2 u.tw), (1, u.held.toNat), (1, (bandOf u.tw).val)] := by
  simp [TempUnit.liveBytes, optOnes_byte, codeByte, TempUnit.twBytes_eq]

theorem Tally.liveBytes_eq (t : Tally) : t.liveBytes = render [(4, t.classes.sum), (2, t.dropped)] := by
  simp [Tally.liveBytes]

/-- The Capture Unit's two fields in LIVE_READ that STATUS does not hold: the start's tick and the number of sets from it. -/
def captureExtra (c : CaptureUnit) : List (Nat × Nat) :=
  if c.state = .recording then
    [(1, c.startTick.isSome.toNat), (4, (c.startTick.map BitVec.toNat).getD 0), (2, (captureSets c).length)]
  else [(1, 0), (4, 0), (2, 65535)]

theorem captureExtra_recording {c : CaptureUnit} (h : c.state = .recording) : captureExtra c =
    [(1, c.startTick.isSome.toNat), (4, (c.startTick.map BitVec.toNat).getD 0), (2, (captureSets c).length)] := if_pos h

theorem captureExtra_absent {c : CaptureUnit} (h : c.state ≠ .recording) : captureExtra c = [(1, 0), (4, 0), (2, 65535)] := if_neg h

theorem CaptureUnit.liveBytes_eq (c : CaptureUnit) : c.liveBytes = c.bytes ++ render (captureExtra c) := by
  by_cases h : c.state = .recording
  · rw [captureExtra_recording h, CaptureUnit.liveBytes, if_pos h, c.sets_eq]
    simp [optTick_eq, captureSets]
  · rw [captureExtra_absent h, CaptureUnit.liveBytes, if_neg h]
    rfl

/-! ## The fields at their places -/

section
variable {bytes : List Byte} {i : Nat}

theorem optAt_of_fields {v : Option Nat} (hhas : field bytes i 1 = v.isSome.toNat % 256) (hvalue : field bytes (i + 1) 4 = v.getD 0 % 2 ^ 32) :
    OptAt bytes i v := by
  refine ⟨hhas.trans ?_, hvalue⟩
  cases v <;> rfl

theorem StandsAt.channelUnit {u : ChannelUnit} (h : StandsAt bytes i u.liveBytes) : ChannelAt bytes i u := by
  rw [u.liveBytes_eq] at h
  obtain ⟨hservice, hdetector, hy, hbaseline, hexcess, hoverlong, hmiss, hgeneration, -⟩ := h.fields
  refine ⟨hservice.trans ?_, hdetector.trans ?_, hy.trans (twos_mod 2 _), hbaseline.trans (twos_mod 2 _), hexcess.trans (twos_mod 4 _),
    hoverlong, hmiss, hgeneration⟩
  · cases u.service <;> rfl
  · cases u.detector <;> rfl

theorem StandsAt.matcher {m : Matcher} {quiet : Bool} (h : StandsAt bytes i (m.liveBytes quiet)) : MatcherAt bytes i m quiet := by
  rw [m.liveBytes_eq] at h
  obtain ⟨hlist1, hlist2, hqueue, hhasOnset, honset, hmin, hmax, hhasMark, hmark, hquiet, -⟩ := h.fields
  refine ⟨hlist1, hlist2, hqueue, optAt_of_fields ?_ honset, hmin, hmax, optAt_of_fields ?_ hmark, hquiet.trans (Bool.toNat_mod_byte _)⟩
  · rw [Option.isSome_map]
    exact hhasOnset
  · rw [Option.isSome_map]
    exact hhasMark

theorem band_getD_lt (v : Option Band) : (v.map fun b => b.val).getD 255 < 256 := by
  cases v with
  | none => decide
  | some b => exact b.isLt.trans (by decide)

theorem StandsAt.assembler {a : Assembler} (h : StandsAt bytes i a.liveBytes) : AssemblerAt bytes i a := by
  rw [a.liveBytes_eq] at h
  obtain ⟨hopen, hpresence, hloop, hheldSpeed, hhasTick, htick, haxles, hgeneration, htw, hheld, hband, hkd, hfell, hsplit, -⟩ := h.fields
  have hyesNo : ∀ v : Option Bool, yesNo v % 256 ^ 1 = yesNo v := fun v => Nat.mod_eq_of_lt (yesNo_lt v)
  refine ⟨hopen.trans (Bool.toNat_mod_byte _), hpresence.trans (Bool.toNat_mod_byte _), hloop.trans (hyesNo _), hheldSpeed,
    optAt_of_fields ?_ htick, haxles, hgeneration, htw.trans (twos_mod 2 _), hheld.trans (hyesNo _), hband.trans ?_, hkd,
    hfell.trans (hyesNo _), hsplit.trans (hyesNo _)⟩
  · rw [Option.isSome_map]
    exact hhasTick
  · have hlt := band_getD_lt (a.context.map Context.band)
    rw [Option.map_map] at hlt
    exact Nat.mod_eq_of_lt hlt

theorem StandsAt.probe {p : Probe} (h : StandsAt bytes i p.liveBytes) : ProbeAt bytes i p := by
  rw [p.liveBytes_eq] at h
  obtain ⟨hrole, hstate, hhasF10, hf10, hreading, hsmoothed, hreject, hrecovery, -⟩ := h.fields
  refine ⟨hrole.trans ?_, hstate.trans ?_, optAt_of_fields hhasF10 hf10, hreading.trans ?_, hsmoothed.trans (twos_mod 2 _), hreject, hrecovery⟩
  · cases p.role <;> rfl
  · cases p.state <;> rfl
  · rcases p.lastReading with - | (t | - | -)
    · rfl
    · exact twos_mod 2 t
    · rfl
    · rfl

theorem StandsAt.captureExtra {c : CaptureUnit} (h : StandsAt bytes i (render (captureExtra c))) :
    if c.state = .recording then
      OptAt bytes i (c.startTick.map BitVec.toNat) ∧ Machine.field bytes (i + 5) 2 = (captureSets c).length % 65536
    else OptAt bytes i none ∧ Machine.field bytes (i + 5) 2 = 65535 := by
  split
  · next hrecording =>
    rw [captureExtra_recording hrecording] at h
    obtain ⟨hhas, htick, hcount, -⟩ := h.fields
    exact ⟨optAt_of_fields (by rwa [Option.isSome_map]) htick, hcount⟩
  · next hother =>
    rw [captureExtra_absent hother] at h
    obtain ⟨hhas, htick, hcount, -⟩ := h.fields
    exact ⟨optAt_of_fields (v := none) hhas htick, hcount⟩

end

/-! ## The reply and its places -/

section
variable (s : State)

/-- A lane's group of LIVE_READ: its matcher's fields and its assembler's. -/
def State.laneLive (ln : LaneId) : List Byte := (s.matcher ln).liveBytes (s.quiet ln) ++ (s.asm ln).liveBytes

theorem ChannelUnit.liveBytes_length (u : ChannelUnit) : u.liveBytes.length = 14 := by
  rw [u.liveBytes_eq]
  simp

theorem Matcher.liveBytes_length (m : Matcher) (quiet : Bool) : (m.liveBytes quiet).length = 18 := by
  rw [m.liveBytes_eq]
  simp

theorem Assembler.liveBytes_length (a : Assembler) : a.liveBytes.length = 21 := by
  rw [a.liveBytes_eq]
  simp

theorem State.laneLive_length (ln : LaneId) : (s.laneLive ln).length = 39 := by
  rw [State.laneLive, List.length_append, Matcher.liveBytes_length, Assembler.liveBytes_length]

theorem Probe.liveBytes_length (p : Probe) : p.liveBytes.length = 13 := by
  rw [p.liveBytes_eq]
  simp

theorem Tally.liveBytes_length (t : Tally) : t.liveBytes.length = 6 := by
  rw [t.liveBytes_eq]
  simp

theorem captureExtra_length (c : CaptureUnit) : (render (captureExtra c)).length = 7 := by
  unfold captureExtra
  split <;> simp

/-- The parts of a LIVE_READ reply after its result code. -/
def State.liveParts : List (List Byte) :=
  [allChannels.flatMap (fun ch => (s.unit ch).liveBytes), fours.flatMap s.laneLive, s.temp.probes.toList.flatMap Probe.liveBytes,
    s.temp.liveBytes, s.tally.active.toList.flatMap Tally.liveBytes, s.capture.bytes, render (captureExtra s.capture)]

theorem State.liveParts_flatten : s.liveBytes = s.liveParts.flatten := by
  have hlanes : s.laneLive = fun ln => (s.matcher ln).liveBytes (s.quiet ln) ++ (s.asm ln).liveBytes := rfl
  simp [State.liveBytes, State.liveParts, hlanes, CaptureUnit.liveBytes_eq]

theorem State.liveParts_lengths : s.liveParts.map List.length = [224, 156, 52, 6, 24, 7, 7] := by
  have hunits : (allChannels.flatMap fun ch => (s.unit ch).liveBytes).length = 224 :=
    length_flatMap_const (fun ch => (s.unit ch).liveBytes_length) allChannels
  have hlanes : (fours.flatMap s.laneLive).length = 156 := length_flatMap_const s.laneLive_length fours
  have hprobes : (s.temp.probes.toList.flatMap Probe.liveBytes).length = 52 := four_length fun p => (s.probe p).liveBytes_length
  have htallies : (s.tally.active.toList.flatMap Tally.liveBytes).length = 24 := four_length fun ln => (s.tally.active.get ln).liveBytes_length
  have htemp : s.temp.liveBytes.length = 6 := by
    rw [s.temp.liveBytes_eq]
    simp
  simp only [State.liveParts, List.map_cons, List.map_nil, hunits, hlanes, hprobes, htemp, htallies, CaptureUnit.bytes_length,
    captureExtra_length]

theorem State.live_part (k : Nat) (hk : k < 7) :
    StandsAt s.liveBytes ([224, 156, 52, 6, 24, 7, 7].take k).sum (s.liveParts[k]'hk) := by
  rw [s.liveParts_flatten]
  exact StandsAt.ofParts s.liveParts_lengths k hk

theorem State.live_lane (ln : LaneId) : StandsAt s.liveBytes (224 + 39 * ln.val) (s.laneLive ln) :=
  (s.live_part 1 (by decide)).trans (StandsAt.ofFours s.laneLive_length ln)

theorem State.live_tally (ln : LaneId) :
    field s.liveBytes (438 + 6 * ln.val) 4 = (s.tally.active.get ln).classes.sum % 2 ^ 32 ∧
      field s.liveBytes (442 + 6 * ln.val) 2 = (s.tally.active.get ln).dropped % 65536 := by
  have hplace : StandsAt s.liveBytes (438 + 6 * ln.val) (s.tally.active.get ln).liveBytes :=
    (s.live_part 4 (by decide)).trans (StandsAt.ofFour (fun ln => (s.tally.active.get ln).liveBytes_length) ln)
  rw [Tally.liveBytes_eq] at hplace
  obtain ⟨hsum, hdropped, -⟩ := hplace.fields
  exact ⟨hsum, field_at hdropped (by omega)⟩

theorem gate_getD_lt (g : Option Gate) : (g.map fun g => g.probe.val + 1).getD 255 < 256 := by
  cases g with
  | none => decide
  | some g => exact (Nat.succ_lt_succ g.probe.isLt).trans (by decide)

theorem State.liveBytes_layout : LiveLayout s.liveBytes s := by
  have htemp : StandsAt s.liveBytes 432 s.temp.liveBytes := s.live_part 3 (by decide)
  rw [s.temp.liveBytes_eq] at htemp
  obtain ⟨hgate, hselection, htw, hheld, hband, -⟩ := htemp.fields
  refine ⟨?_, fun ln p => ?_, fun ln => ⟨((s.live_lane ln).trans (StandsAt.first _ _)).matcher, ?_⟩, fun p => ?_,
    hgate.trans (Nat.mod_eq_of_lt (gate_getD_lt _)), hselection.trans ?_, htw.trans (twos_mod 2 _), hheld.trans (Bool.toNat_mod_byte _),
    hband.trans (Nat.mod_eq_of_lt ((bandOf s.temp.tw).isLt.trans (by decide))), s.live_tally, (s.live_part 5 (by decide)).capture, ?_⟩
  · rw [s.liveParts_flatten]
    exact flatten_length s.liveParts_lengths
  · have hplace : StandsAt s.liveBytes (0 + 14 * (4 * ln.val + p.val)) (s.unit ⟨ln, p⟩).liveBytes :=
      (s.live_part 0 (by decide)).trans (StandsAt.ofChannels (fun ch => (s.unit ch).liveBytes_length) ⟨ln, p⟩)
    have hi : 0 + 14 * (4 * ln.val + p.val) = 56 * ln.val + 14 * p.val := by omega
    exact (hi ▸ hplace).channelUnit
  · have hplace : StandsAt s.liveBytes (224 + 39 * ln.val + (18 + 0)) (s.asm ln).liveBytes :=
      (s.live_lane ln).trans ((StandsAt.self _).behind (Matcher.liveBytes_length _ _))
    have hi : 224 + 39 * ln.val + (18 + 0) = 242 + 39 * ln.val := by omega
    exact (hi ▸ hplace).assembler
  · have hplace : StandsAt s.liveBytes (380 + 13 * p.val) (s.probe p).liveBytes :=
      (s.live_part 2 (by decide)).trans (StandsAt.ofFour (fun p => (s.probe p).liveBytes_length) p)
    exact hplace.probe
  · cases s.temp.selection <;> rfl
  · have hextra : StandsAt s.liveBytes 469 (render (captureExtra s.capture)) := s.live_part 6 (by decide)
    exact hextra.captureExtra

end

end Sys2Proof.Machine
end

section
/-! The requests that only read (R139, R155, R163, R171, R177, R183, R185). -/

namespace Sys2Proof.Machine

theorem length_fits (body : List Byte) (n : Nat) (h : body.length = n) : ¬ body.length ≠ n := not_not.2 h

section
variable (s : State) (tag : Byte)

/-! ## The tables and the drift factors (R139, R155) -/

theorem tableRead_none {a b : Byte} (h : itemIdOf a.toNat b.toNat = none) :
    exec (.tableRead tag [a, b]) s = .next (s.answer 0x14 tag [a, b] [codeBadValue]) := by
  have hid : itemIdOf (field [a, b] 0 1) (field [a, b] 1 1) = none := h
  show execTableRead tag [a, b] s = _
  rw [execTableRead, if_neg (length_fits [a, b] 2 rfl), hid]

theorem tableRead_noTables {a b : Byte} {id : ItemId} (h : itemIdOf a.toNat b.toNat = some id) (hactive : s.tables.active = none) :
    exec (.tableRead tag [a, b]) s = .next (s.answer 0x14 tag [a, b] [codeNotFound]) := by
  have hid : itemIdOf (field [a, b] 0 1) (field [a, b] 1 1) = some id := h
  show execTableRead tag [a, b] s = _
  rw [execTableRead, if_neg (length_fits [a, b] 2 rfl), hid, hactive]

theorem tableRead_some {a b : Byte} {id : ItemId} (h : itemIdOf a.toNat b.toNat = some id) {g : Generation} (hactive : s.tables.active = some g) :
    exec (.tableRead tag [a, b]) s = .next (s.answer 0x14 tag [a, b] (codeOk :: (g.set.item id).bytes)) := by
  have hid : itemIdOf (field [a, b] 0 1) (field [a, b] 1 1) = some id := h
  show execTableRead tag [a, b] s = _
  rw [execTableRead, if_neg (length_fits [a, b] 2 rfl), hid, hactive]

theorem driftGet_some (ln : LaneId) : exec (.driftGet tag [BitVec.ofNat 8 (ln.val + 1)]) s =
    .next (s.answer 0x18 tag [BitVec.ofNat 8 (ln.val + 1)] (codeOk :: (s.drift.lanes.get ln).bytes)) := by
  show execDriftGet tag [BitVec.ofNat 8 (ln.val + 1)] s = _
  rw [execDriftGet, if_neg (length_fits [_] 1 rfl), fourOfNumber_number]

theorem driftGet_none {a : Byte} (h : a.toNat = 0 ∨ 4 < a.toNat) :
    exec (.driftGet tag [a]) s = .next (s.answer 0x18 tag [a] [codeBadValue]) := by
  show execDriftGet tag [a] s = _
  rw [execDriftGet, if_neg (length_fits [a] 1 rfl), leNat_single, fourOfNumber_none h]

/-! ## Records and tallies (R163, R171) -/

theorem recordFetch_replies {n : Nat} (hn : n < 2 ^ 48) {k : Byte} {reply : List Byte} (h : s.store.fetch n k.toNat = reply) :
    exec (.recordFetch tag (leBytes 6 n ++ [k])) s = .next (s.answer 0x20 tag (leBytes 6 n ++ [k]) reply) := by
  have hserial : field (leBytes 6 n ++ [k]) 0 6 = n := (field_leBytes 6 n [k]).trans (Nat.mod_eq_of_lt (b := 256 ^ 6) hn)
  have hcount : field (leBytes 6 n ++ [k]) 6 1 = k.toNat := by
    rw [field_append_right _ _ _ _ (by simp), leBytes_length]
    exact field_cons_zero k []
  show execRecordFetch tag (leBytes 6 n ++ [k]) s = _
  rw [execRecordFetch, if_neg (length_fits (leBytes 6 n ++ [k]) 7 (by simp)), hserial, hcount, h]

theorem tallyFetch_none (h : s.tally.queue = []) : exec (.tallyFetch tag []) s = .next (s.answer 0x22 tag [] [codeNotFound]) := by
  show execTallyFetch tag [] s = _
  rw [execTallyFetch, if_neg (length_fits [] 0 rfl), h]

theorem tallyFetch_some {e : TallyEntry} {rest : List TallyEntry} (h : s.tally.queue = e :: rest) :
    exec (.tallyFetch tag []) s = .next (s.answer 0x22 tag [] (codeOk :: e.bytes)) := by
  show execTallyFetch tag [] s = _
  rw [execTallyFetch, if_neg (length_fits [] 0 rfl), h]

/-! ## The capture (R177) -/

theorem captureFetch_replies {off : Nat} (hoff : off < 65536) {k : Byte} {reply : List Byte} (h : s.capture.fetch off k.toNat = reply) :
    exec (.captureFetch tag (leBytes 2 off ++ [k])) s = .next (s.answer 0x29 tag (leBytes 2 off ++ [k]) reply) := by
  have hoffset : field (leBytes 2 off ++ [k]) 0 2 = off := (field_leBytes 2 off [k]).trans (Nat.mod_eq_of_lt (b := 256 ^ 2) hoff)
  have hcount : field (leBytes 2 off ++ [k]) 2 1 = k.toNat := by
    rw [field_append_right _ _ _ _ (by simp), leBytes_length]
    exact field_cons_zero k []
  show execCaptureFetch tag (leBytes 2 off ++ [k]) s = _
  rw [execCaptureFetch, if_neg (length_fits (leBytes 2 off ++ [k]) 3 (by simp)), hoffset, hcount, h]

theorem exec_liveRead_eq : exec (.liveRead tag []) s = .next (s.answer 0x02 tag [] (codeOk :: s.liveBytes)) := rfl

end

section
variable {st : RecordStore} {n k : Nat}

theorem RecordStore.fetch_range (h : k = 0 ∨ 4 < k) : st.fetch n k = [codeBadValue] := by
  have hrange : within 1 4 k = false := by
    rw [Bool.eq_false_iff, ne_eq, within_iff]
    omega
  rw [RecordStore.fetch, hrange]
  rfl

theorem RecordStore.fetch_none (hlow : 1 ≤ k) (hhigh : k ≤ 4) (h : st.held.filter (serialFrom n) = []) : st.fetch n k = [codeNotFound] := by
  rw [RecordStore.fetch, (within_iff 1 4 k).2 ⟨hlow, hhigh⟩, h]
  rfl

theorem RecordStore.fetch_some (hlow : 1 ≤ k) (hhigh : k ≤ 4) (h : st.held.filter (serialFrom n) ≠ []) :
    st.fetch n k = codeOk :: ((st.held.filter (serialFrom n)).take k).flatMap VehicleRecord.bytes := by
  obtain ⟨r, rest, hfound⟩ := List.exists_cons_of_ne_nil h
  rw [RecordStore.fetch, (within_iff 1 4 k).2 ⟨hlow, hhigh⟩, hfound]
  rfl

end

section
variable {c : CaptureUnit} {off k : Nat}

theorem CaptureUnit.fetch_absent (h : c.state ≠ .held) : c.fetch off k = [codeNotFound] := by
  unfold CaptureUnit.fetch
  cases hstate : c.state with
  | held => exact absurd hstate h
  | idle | armed | recording => rfl

theorem CaptureUnit.fetch_range (hheld : c.state = .held) {d : Description} (hd : c.description = some d)
    (h : k = 0 ∨ 120 < k ∨ d.count ≤ off) : c.fetch off k = [codeBadValue] := by
  have hrefused : (!within 1 120 k || decide (d.count ≤ off)) = true := by
    rw [Bool.or_eq_true, Bool.not_eq_true', Bool.eq_false_iff, ne_eq, within_iff, decide_eq_true_eq]
    omega
  simp only [CaptureUnit.fetch, hheld, hd, hrefused, if_true]

theorem CaptureUnit.fetch_sets (hheld : c.state = .held) {d : Description} (hd : c.description = some d) (hlow : 1 ≤ k) (hhigh : k ≤ 120)
    (hoff : off < d.count) : c.fetch off k = codeOk :: (d.bytes ++ (render [(2, off), (1, (((captureSets c).drop off).take k).length)] ++
      (((captureSets c).drop off).take k).flatMap SampleSet.bytes)) := by
  have hpasses : (!within 1 120 k || decide (d.count ≤ off)) = false := by
    rw [(within_iff 1 120 k).2 ⟨hlow, hhigh⟩, decide_eq_false (Nat.not_le.2 hoff)]
    rfl
  have hsets : c.sets = captureSets c := c.sets_eq
  simp only [CaptureUnit.fetch, hheld, hd, hpasses, hsets]
  simp [codeByte]

end

theorem SampleSet.bytes_length (x : SampleSet) : x.bytes.length = 8 := four_length (f := leSigned 2) fun _ => leBytes_length 2 _

theorem StandsAt.sample {bytes : List Byte} {i : Nat} {x : SampleSet} (h : StandsAt bytes i x.bytes) (p : Strip) :
    Machine.field bytes (i + 2 * p.val) 2 = twos 2 (x.ys.get p) := by
  have hplace : StandsAt bytes (i + 2 * p.val) (leSigned 2 (x.ys.get p)) := h.trans (StandsAt.ofFour (f := leSigned 2) (fun _ => leBytes_length 2 _) p)
  have hrender : leSigned 2 (x.ys.get p) = render [(2, twos 2 (x.ys.get p))] := by simp [leSigned_eq]
  rw [hrender] at hplace
  obtain ⟨hy, -⟩ := hplace.fields
  exact hy.trans (twos_mod 2 _)

/-- The sets that a CAPTURE_FETCH sends behind the description: their offset, their number and their samples. -/
theorem captureReply_layout {off : Nat} (hoff : off < 65536) {sets : List SampleSet} (hsets : sets.length ≤ 120) :
    let reply := render [(2, off), (1, sets.length)] ++ sets.flatMap SampleSet.bytes
    reply.length = 3 + 8 * sets.length ∧ field reply 0 2 = off ∧ field reply 2 1 = sets.length ∧
      ∀ (i : Nat) (h : i < sets.length) (p : Strip), field reply (3 + 8 * i + 2 * p.val) 2 = twos 2 (sets[i].ys.get p) := by
  have hhead : (render [(2, off), (1, sets.length)]).length = 3 := by simp
  obtain ⟨hoffset, hcount, -⟩ := (StandsAt.first (render [(2, off), (1, sets.length)]) (sets.flatMap SampleSet.bytes)).fields
  refine ⟨?_, hoffset.trans (Nat.mod_eq_of_lt (b := 256 ^ 2) hoff), hcount.trans (Nat.mod_eq_of_lt (by omega)), fun i hi p => ?_⟩
  · rw [List.length_append, hhead, length_flatMap_const SampleSet.bytes_length]
  · exact ((StandsAt.ofList SampleSet.bytes_length sets i hi).behind hhead).sample p

/-! ## A lane's drift factors on the wire (R139) -/

/-- The fields of one band's factor. -/
def bandLayout (b : DriftBand) : List (Nat × Nat) := [(2, b.kd), (1, b.n), (2, b.rejected)]

theorem eight_flatMap {α : Type} (e : Eight α) (f : α → List Byte) :
    e.toList.flatMap f = (List.finRange 8).flatMap fun b : Fin 8 => f (e.get b) := rfl

theorem DriftLane.bytes_eq (l : DriftLane) :
    l.bytes = (List.finRange 8).flatMap (fun b : Band => render (bandLayout (l.bands.get b))) ++ render [(1, l.frozen.toNat)] := by
  rw [DriftLane.bytes, eight_flatMap]
  simp [bandLayout, flagByte_eq]

theorem DriftLane.bytes_layout (l : DriftLane) : l.bytes.length = 41 ∧
    (∀ b : Band, field l.bytes (5 * b.val) 2 = (l.bands.get b).kd % 65536 ∧ field l.bytes (5 * b.val + 2) 1 = (l.bands.get b).n % 256 ∧
      field l.bytes (5 * b.val + 3) 2 = (l.bands.get b).rejected % 65536) ∧
    field l.bytes 40 1 = if l.frozen then 1 else 0 := by
  have hband : ∀ b : Band, (render (bandLayout (l.bands.get b))).length = 5 := fun b => by simp [bandLayout]
  have hbands : ((List.finRange 8).flatMap fun b : Band => render (bandLayout (l.bands.get b))).length = 40 := by
    rw [length_flatMap_const hband, List.length_finRange]
  rw [l.bytes_eq]
  refine ⟨by rw [List.length_append, hbands]; simp, fun b => ?_, ?_⟩
  · have hplace : StandsAt _ (5 * b.val) (render (bandLayout ((l.bands.get ((List.finRange 8)[b.val]'(by simp)))))) :=
      (StandsAt.ofList hband (List.finRange 8) b.val (by simp)).within (render [(1, l.frozen.toNat)])
    rw [List.getElem_finRange] at hplace
    obtain ⟨hkd, hn, hrejected, -⟩ := hplace.fields
    exact ⟨hkd, hn, hrejected⟩
  · obtain ⟨hfrozen, -⟩ := ((StandsAt.self (render [(1, l.frozen.toNat)])).behind hbands).fields
    refine hfrozen.trans ?_
    cases l.frozen <;> rfl

/-! ## The statement -/

theorem fourOfNumber_sound {m : Nat} {n : Fin 4} (h : fourOfNumber m = some n) : n.val + 1 = m := by
  obtain ⟨hrange, hn⟩ := Option.ite_none_right_eq_some.1 h
  have hval : (Fin.ofNat 4 (m - 1)).val = n.val := congrArg Fin.val (Option.some.inj hn)
  simp only [Fin.val_ofNat] at hval
  omega

theorem channelOfNumber_sound {m : Nat} {ch : ChannelId} (h : channelOfNumber m = some ch) : channelNumber ch = m := by
  obtain ⟨hrange, hch⟩ := Option.ite_none_right_eq_some.1 h
  cases hch
  simp only [channelNumber, Fin.val_ofNat]
  omega

/-- A kind and an index that no identity has name no item. -/
theorem itemIdOf_sound {kind index : Nat} {id : ItemId} (h : itemIdOf kind index = some id) : id.codes = (kind, index) := by
  unfold itemIdOf at h
  split at h
  case h_1 | h_5 | h_7 =>
    obtain ⟨rfl, hid⟩ := Option.ite_none_right_eq_some.1 h
    cases hid
    rfl
  case h_2 | h_4 | h_8 =>
    obtain ⟨n, hn, rfl⟩ := Option.map_eq_some_iff.1 h
    exact congrArg (Prod.mk _) (fourOfNumber_sound hn)
  case h_3 =>
    obtain ⟨ch, hch, rfl⟩ := Option.map_eq_some_iff.1 h
    exact congrArg (Prod.mk _) (channelOfNumber_sound hch)
  case h_6 =>
    split at h
    · cases h
      rfl
    · cases h
  case h_9 => cases h

/-- Settles O48, by each request's reply and the layouts of what it carries. -/
theorem readsChangeNothing : Obligations.ReadsChangeNothing := by
  intro s tag
  refine ⟨⟨_, ⟨_, exec_liveRead_eq s tag, State.answer_only _ _ _ _ _⟩, s.liveBytes_layout⟩, VehicleRecord.bytes_layout,
    TallyEntry.bytes_layout, Description.bytes_layout, fun id => ⟨fun hactive => ?_, fun g hactive => ?_⟩, fun a b hnone => ?_, fun ln => ?_,
    fun a hrange => ?_, fun n hn k => ⟨fun hrange => ?_, fun hlow hhigh hfound => ?_, fun hlow hhigh hfound => ?_⟩, fun hqueue => ?_,
    fun e rest hqueue => ?_, fun off hoff k => ⟨fun hstate => ?_, fun d hheld hd => ⟨fun hrange => ?_, fun hlow hhigh hcount => ?_⟩⟩⟩
  · exact ⟨_, tableRead_noTables s tag (itemIdOf_bytes id) hactive, State.answer_only _ _ _ _ _⟩
  · exact ⟨_, tableRead_some s tag (itemIdOf_bytes id) hactive, State.answer_only _ _ _ _ _⟩
  · have hid : itemIdOf a.toNat b.toNat = none := by
      rw [Option.eq_none_iff_forall_ne_some]
      exact fun id hid => hnone id (itemIdOf_sound hid)
    exact ⟨_, tableRead_none s tag hid, State.answer_only _ _ _ _ _⟩
  · obtain ⟨hlength, hbands, hfrozen⟩ := (s.drift.lanes.get ln).bytes_layout
    exact ⟨_, ⟨_, driftGet_some s tag ln, State.answer_only _ _ _ _ _⟩, hlength, hbands, hfrozen⟩
  · exact ⟨_, driftGet_none s tag hrange, State.answer_only _ _ _ _ _⟩
  · exact ⟨_, recordFetch_replies s tag hn (RecordStore.fetch_range hrange), State.answer_only _ _ _ _ _⟩
  · exact ⟨_, recordFetch_replies s tag hn (RecordStore.fetch_none hlow hhigh hfound), State.answer_only _ _ _ _ _⟩
  · exact ⟨_, recordFetch_replies s tag hn (RecordStore.fetch_some hlow hhigh hfound), State.answer_only _ _ _ _ _⟩
  · exact ⟨_, tallyFetch_none s tag hqueue, State.answer_only _ _ _ _ _⟩
  · exact ⟨_, tallyFetch_some s tag hqueue, State.answer_only _ _ _ _ _⟩
  · exact ⟨_, captureFetch_replies s tag hoff (CaptureUnit.fetch_absent hstate), State.answer_only _ _ _ _ _⟩
  · exact ⟨_, captureFetch_replies s tag hoff (CaptureUnit.fetch_range hheld hd hrange), State.answer_only _ _ _ _ _⟩
  · have hsets : (((captureSets s.capture).drop off).take k.toNat).length ≤ 120 := (List.length_take_le _ _).trans hhigh
    exact ⟨_, ⟨_, captureFetch_replies s tag hoff (CaptureUnit.fetch_sets hheld hd hlow hhigh hcount),
      State.answer_only _ _ _ _ _⟩, captureReply_layout hoff hsets⟩

end Sys2Proof.Machine
end
